-- ==== Sys2Proof/Word.lean ====
section
/-! DEFINITION. The word types of the JA-8: bytes and the identifiers software sees as bits. Samples, gains and
levels are plain integers (00_scope, "Units and number ranges": the manual adds and compares them exactly). -/

namespace Sys2Proof

/-- One byte of a frame or packet. -/
abbrev Byte := BitVec 8

/-- Part time: milliseconds since the last power-on or RESET, a 32-bit value that wraps (00_scope). -/
abbrev PartTime := BitVec 32

/-- A stream ID: a 32-bit identifier carried by every audio packet (00_scope). -/
abbrev StreamId := BitVec 32

/-- A sequence number, counted modulo 65,536 (R8). -/
abbrev Seq := BitVec 16

/-- An Ethernet station address. -/
abbrev Mac := BitVec 48

/-- A screen, 1 to 8 in the manual, here 0 to 7. -/
abbrev ScreenIx := Fin 8

/-- A speaker bus: 0 L, 1 C, 2 R, 3 LFE, 4 LS, 5 RS, 6 LRS, 7 RRS. -/
abbrev Bus := Fin 8

/-- A contact line, 1 to 20 in the manual, here 0 to 19. -/
abbrev LineIx := Fin 20

/-- A preset library slot, 1 to 32 in the manual, here 0 to 31. -/
abbrev PresetIx := Fin 32

end Sys2Proof
end

