-- ==== Sys2Proof/Config.lean ====
section
/-! DEFINITION. What an implementation fixes: the capacities of HELLO (R197) and the two values the manual leaves
to the part, which nothing here can evaluate (log 7). -/

namespace Sys2Proof.Config

/-- Bands in the band pool (R71). -/
def bandPool : Nat := 640

/-- Cue entries in the pool (R144). -/
def cuePool : Nat := 1024

/-- Places in the event queue (R179). -/
def queuePlaces : Nat := 256

/-- Largest payload of a control frame (R192). -/
def maxPayload : Nat := 1024

/-- The value that stands for an absent position, 4,294,967,295 (00_scope, "Show ms"). -/
def absentPosition : Nat := 4294967295

/-- Least payload of an Ethernet frame, to which a pace message is padded (section 11.4; PRESUMED from the Ethernet
standard, log 30). -/
def ethernetMinimum : Nat := 46

/-- The part's own Ethernet station address (R2). The manual gives no value: an uninterpreted constant (log 7). -/
opaque stationAddress : Mac

/-- The silicon revision that HELLO reports (R197). The manual gives no value: an uninterpreted constant (log 7). -/
opaque siliconRevision : Byte

end Sys2Proof.Config
end

