-- ==== Sys2Proof/Syntax.lean ====
section
/-! DEFINITION. The commands of the JA-8: one constructor per row of spec/opcode_table.json, with the row's operands.
Operands of requests are the raw field values of the payload (R200), so that a value out of range can be written and
refused as its rule says; operands of the part's own events name their screen, instance or line. -/

namespace Sys2Proof

/-- What every request command carries beside its fields: the frame's tag, and whether the payload has the length
its kind implies (R194: a wrong length is answered BAD_ARG by the port). -/
structure Req where
  tag : Byte
  lengthOk : Bool
  deriving DecidableEq, Repr

/-- A control frame's tag, kind and payload (R192), as held in the holding area and on the reply path. -/
structure Frame where
  tag : Byte
  kind : Byte
  payload : List Byte
  deriving DecidableEq, Repr

/-- A binding slot's letter: A the primary, B the backup (section 1.2). -/
inductive Letter where
  | a
  | b
  deriving DecidableEq, Repr

/-- The four alarm kinds, in the order of section 6.1. -/
inductive AlarmKind where
  | overLevel
  | clip
  | silence
  | stream
  deriving DecidableEq, Repr

/-- One of the 18 alarm instances of a screen (section 6.1). -/
inductive AlarmId where
  | overLevel
  | clip (bus : Bus)
  | silence (bus : Bus)
  | stream
  deriving DecidableEq, Repr

/-- One second-order section: five signed 24-bit coefficients in Q2.22 (section 4.1). -/
structure Band where
  b0 : Int
  b1 : Int
  b2 : Int
  a1 : Int
  a2 : Int
  deriving DecidableEq, Repr

/-- A preset's contents for one bus: the preset offset and the bands in order of application (section 4.1). -/
structure BusContents where
  offset : Int
  bands : List Band
  deriving DecidableEq, Repr

/-- A cue condition as sent: its kind and fields, unchecked (R144, R200). -/
inductive RawCondition where
  | absent
  | lineLevel (line level : Nat)
  | format (code : Nat)
  | playing (slot : Nat)
  | unknown (kind : Nat)
  deriving DecidableEq, Repr

/-- A cue action as sent: its fields, unchecked (R147, R200). A kind outside the table has no known fields, so it ends
the list in which it stands. -/
inductive RawAction where
  | fader (position ramp : Nat)
  | offset (mask : Byte) (gs : Int) (ramp : Nat)
  | mute (mask : Byte) (on : Nat)
  | preset (slot : Nat)
  | format (code : Nat)
  | source (slot : Nat)
  | lineSet (line : Nat)
  | lineClear (line : Nat)
  | lineToggle (line : Nat)
  | linePulse (line width : Nat)
  | clock (command position : Nat)
  | mark (number : Nat)
  | unknown (kind : Nat)
  deriving DecidableEq, Repr

/-- The fields of SET_LINE after the line: the direction, then the fields of that direction (R168). -/
inductive RawLine where
  | input (debounce edge action screen cue : Nat)
  | output (function screen alarm invert stop : Nat)
  | unknown (direction : Nat)
  deriving DecidableEq, Repr

/-- The commands. -/
inductive Instr where
  -- requests, kinds 0x01 to 0x27 (R192)
  | bind (q : Req) (screen slot : Nat) (stream : StreamId)
  | unbind (q : Req) (screen slot : Nat)
  | setIntake (q : Req) (screen start low high policy pacing : Nat)
  | setSource (q : Req) (screen slot : Nat)
  | listSeen (q : Req) (discovery : Nat)
  | setLayout (q : Req) (screen : Nat) (mask : Byte) (topology delay : Nat)
  | setFormat (q : Req) (screen format : Nat)
  | setFader (q : Req) (screen position ramp : Nat)
  | setLimit (q : Req) (screen position : Nat)
  | setTrim (q : Req) (screen : Nat) (mask : Byte) (trim : Int)
  | setMute (q : Req) (screen : Nat) (mask : Byte) (on : Nat)
  | loadPreset (q : Req) (slot mode : Nat) (mask : Byte) (buses : List BusContents)
  | dropPreset (q : Req) (slot : Nat)
  | selectPreset (q : Req) (screen preset : Nat)
  | setMeter (q : Req) (screen window : Nat) (calibration : Int)
  | setAlarm (q : Req) (screen kind : Nat) (threshold hysteresis : Int) (raise clear latch interval count : Nat)
  | ackAlarm (q : Req) (screen kind bus : Nat)
  | setGuard (q : Req) (screen enable step interval : Nat) (floor : Int) (release : Nat)
  | setClock (q : Req) (screen mode length endMode pass flywheel : Nat)
  | clock (q : Req) (screen command position : Nat)
  | setTrigger (q : Req) (screen entry line edge position : Nat)
  | readCapture (q : Req) (screen : Nat)
  | loadCue (q : Req) (screen number time : Nat) (condition : RawCondition) (actions : List RawAction)
  | dropCue (q : Req) (screen number : Nat)
  | clearCues (q : Req) (screen : Nat)
  | fire (q : Req) (screen number : Nat)
  | fireActions (q : Req) (screen : Nat) (actions : List RawAction)
  | setLine (q : Req) (line : Nat) (fields : RawLine)
  | driveLine (q : Req) (line operation width : Nat)
  | setPriority (q : Req) (kind priority : Nat)
  | setAttention (q : Req) (threshold urgent : Nat)
  | readEvents (q : Req) (n : Nat)
  | releaseEvents (q : Req) (n : Nat)
  | snapshot (q : Req) (scope clear : Nat)
  | readStats (q : Req) (scope : Nat)
  | hello (q : Req)
  | query (q : Req) (screen : Nat)
  | reset (q : Req)
  | screenReset (q : Req) (screen : Nat)
  -- the control port
  | badKind (tag kind : Byte)
  | controlFrame (bytes : List Byte)
  | frameTimeout
  | replyTransmit
  | resetTakesEffect
  | ready
  | powerOn
  | resetInputRelease
  -- the program port and the screens
  | audioPacket (dest : Mac) (etherType : BitVec 16) (source : Mac) (payload : List Byte)
  | lostTimeout (screen : ScreenIx) (slot : Letter)
  | blockBoundary (screen : ScreenIx)
  | clockEnd (screen : ScreenIx)
  | wrap (screen : ScreenIx)
  | flywheelHold (screen : ScreenIx)
  | crossfadeComplete (screen : ScreenIx)
  | cutSwap (screen : ScreenIx)
  | cutComplete (screen : ScreenIx)
  | intervalClose (screen : ScreenIx)
  | raiseDwellExpiry (screen : ScreenIx) (alarm : AlarmId)
  | clearDwellExpiry (screen : ScreenIx) (alarm : AlarmId)
  | remind (screen : ScreenIx) (alarm : AlarmId)
  | guardReduceStep (screen : ScreenIx)
  | guardReleaseStep (screen : ScreenIx)
  -- the contact block
  | pinChange (line : LineIx) (high : Bool)
  | debounceExpiry (line : LineIx)
  | pulseExpiry (line : LineIx)
  -- the receiver
  | frameLengthDiscard (length : BitVec 16)
  deriving DecidableEq, Repr

end Sys2Proof
end

