-- ==== Sys2Proof/WellFormed.lean ====
section
/-! DEFINITION. When a command is well formed: every field of a request fits the width that the field encodings of
section 11.4 (R200) give it, and every form named is one the tables know. Commands that are no requests carry typed
operands and are always well formed. -/

namespace Sys2Proof

/-- A number that fits `bits` bits. -/
def fits (bits n : Nat) : Bool := decide (n < 2 ^ bits)

/-- An integer that fits `bits` bits in two's complement. -/
def fitsSigned (bits : Nat) (z : Int) : Bool :=
  decide (-(2 ^ (bits - 1) : Nat) ≤ z) && decide (z < (2 ^ (bits - 1) : Nat))

/-- The number of flags set in a mask. -/
def maskCount (m : Byte) : Nat := ((List.range 8).filter (fun k => m.getLsbD k)).length

/-- A band whose coefficients fit three bytes each (R200). -/
def Band.wf (b : Band) : Bool :=
  fitsSigned 24 b.b0 && fitsSigned 24 b.b1 && fitsSigned 24 b.b2 && fitsSigned 24 b.a1 && fitsSigned 24 b.a2

/-- One bus of a LOAD_PRESET: the offset fits two bytes, the band count one (R67, R200). -/
def BusContents.wf (c : BusContents) : Bool :=
  fitsSigned 16 c.offset && fits 8 c.bands.length && c.bands.all Band.wf

def RawCondition.wf : RawCondition → Bool
  | .absent => true
  | .lineLevel line level => fits 8 line && fits 8 level
  | .format code => fits 8 code
  | .playing slot => fits 8 slot
  | .unknown _ => false

def RawAction.wf : RawAction → Bool
  | .fader position ramp => fits 8 position && fits 32 ramp
  | .offset _ gs ramp => fitsSigned 16 gs && fits 32 ramp
  | .mute _ on => fits 8 on
  | .preset slot => fits 16 slot
  | .format code => fits 8 code
  | .source slot => fits 8 slot
  | .lineSet line => fits 8 line
  | .lineClear line => fits 8 line
  | .lineToggle line => fits 8 line
  | .linePulse line width => fits 8 line && fits 32 width
  | .clock command position => fits 8 command && fits 32 position
  | .mark number => fits 16 number
  | .unknown _ => false

def RawLine.wf : RawLine → Bool
  | .input debounce edge action screen cue =>
    fits 32 debounce && fits 8 edge && fits 8 action && fits 8 screen && fits 16 cue
  | .output function screen alarm invert stop =>
    fits 8 function && fits 8 screen && fits 8 alarm && fits 8 invert && fits 8 stop
  | .unknown _ => false

/-- The threshold fields that a SET_ALARM of the kind carries: both for OVER_LEVEL (kind 0), one for CLIP and
SILENCE, none for STREAM (R115). A field not carried is 0. -/
def alarmThresholdsWf (kind : Nat) (threshold hysteresis : Int) : Bool :=
  match kind with
  | 0 => fitsSigned 16 threshold && fitsSigned 16 hysteresis
  | 1 => decide (0 ≤ threshold) && decide (threshold < 256) && decide (hysteresis = 0)
  | 2 => fitsSigned 16 threshold && decide (hysteresis = 0)
  | 3 => decide (threshold = 0) && decide (hysteresis = 0)
  | _ => false

/-- The bytes that one bus of a LOAD_PRESET takes: offset, band count and fifteen bytes a band (R200). -/
def BusContents.size (c : BusContents) : Nat := 3 + 15 * c.bands.length

/-- A well-formed command. -/
def Instr.wf : Instr → Bool
  | .bind _ screen slot _ => fits 8 screen && fits 8 slot
  | .unbind _ screen slot => fits 8 screen && fits 8 slot
  | .setIntake _ screen start low high policy pacing =>
    fits 8 screen && fits 16 start && fits 16 low && fits 16 high && fits 8 policy && fits 8 pacing
  | .setSource _ screen slot => fits 8 screen && fits 8 slot
  | .listSeen _ discovery => fits 8 discovery
  | .setLayout _ screen _ topology delay => fits 8 screen && fits 8 topology && fits 16 delay
  | .setFormat _ screen format => fits 8 screen && fits 8 format
  | .setFader _ screen position ramp => fits 8 screen && fits 8 position && fits 32 ramp
  | .setLimit _ screen position => fits 8 screen && fits 8 position
  | .setTrim _ screen _ trim => fits 8 screen && fitsSigned 16 trim
  | .setMute _ screen _ on => fits 8 screen && fits 8 on
  | .loadPreset _ slot mode mask buses =>
    fits 16 slot && fits 8 mode && buses.all BusContents.wf && decide (buses.length = maskCount mask) &&
      decide (4 + (buses.map BusContents.size).sum ≤ Config.maxPayload)
  | .dropPreset _ slot => fits 16 slot
  | .selectPreset _ screen preset => fits 8 screen && fits 16 preset
  | .setMeter _ screen window calibration => fits 8 screen && fits 16 window && fitsSigned 16 calibration
  | .setAlarm _ screen kind threshold hysteresis raise clear latch interval count =>
    fits 8 screen && alarmThresholdsWf kind threshold hysteresis && fits 32 raise && fits 32 clear && fits 8 latch &&
      fits 32 interval && fits 8 count
  | .ackAlarm _ screen kind bus => fits 8 screen && fits 8 kind && fits 8 bus
  | .setGuard _ screen enable step interval floor release =>
    fits 8 screen && fits 8 enable && fits 8 step && fits 32 interval && fitsSigned 16 floor && fits 32 release
  | .setClock _ screen mode length endMode pass flywheel =>
    fits 8 screen && fits 8 mode && fits 32 length && fits 8 endMode && fits 32 pass && fits 32 flywheel
  | .clock _ screen command position => fits 8 screen && fits 8 command && fits 32 position
  | .setTrigger _ screen entry line edge position =>
    fits 8 screen && fits 8 entry && fits 8 line && fits 8 edge && fits 32 position
  | .readCapture _ screen => fits 8 screen
  | .loadCue _ screen number time condition actions =>
    fits 8 screen && fits 16 number && fits 32 time && condition.wf && fits 8 actions.length && actions.all RawAction.wf
  | .dropCue _ screen number => fits 8 screen && fits 16 number
  | .clearCues _ screen => fits 8 screen
  | .fire _ screen number => fits 8 screen && fits 16 number
  | .fireActions _ screen actions => fits 8 screen && fits 8 actions.length && actions.all RawAction.wf
  | .setLine _ line fields => fits 8 line && fields.wf
  | .driveLine _ line operation width => fits 8 line && fits 8 operation && fits 32 width
  | .setPriority _ kind priority => fits 8 kind && fits 8 priority
  | .setAttention _ threshold urgent => fits 8 threshold && fits 8 urgent
  | .readEvents _ n => fits 16 n
  | .releaseEvents _ n => fits 16 n
  | .snapshot _ scope clear => fits 8 scope && fits 8 clear
  | .readStats _ scope => fits 8 scope
  | .hello _ => true
  | .query _ screen => fits 8 screen
  | .reset _ => true
  | .screenReset _ screen => fits 8 screen
  | .badKind _ _ => true
  | .controlFrame _ => true
  | .frameTimeout => true
  | .replyTransmit => true
  | .resetTakesEffect => true
  | .ready => true
  | .powerOn => true
  | .resetInputRelease => true
  | .audioPacket _ _ _ _ => true
  | .lostTimeout _ _ => true
  | .blockBoundary _ => true
  | .clockEnd _ => true
  | .wrap _ => true
  | .flywheelHold _ => true
  | .crossfadeComplete _ => true
  | .cutSwap _ => true
  | .cutComplete _ => true
  | .intervalClose _ => true
  | .raiseDwellExpiry _ _ => true
  | .clearDwellExpiry _ _ => true
  | .remind _ _ => true
  | .guardReduceStep _ => true
  | .guardReleaseStep _ => true
  | .pinChange _ _ => true
  | .debounceExpiry _ => true
  | .pulseExpiry _ => true
  | .frameLengthDiscard _ => true

end Sys2Proof
end

