-- ==== Sys2Proof/Decode.lean ====
section
/-! DEFINITION. From frames to commands. The table of commands gives no row any bits, so `decodeTableWord` answers
none; what the part does decode is the payload of a request frame, by the field encodings of section 11.4 (R200):
`requestOfFrame` reads a held frame as the command that serves it, and `payloadOf` and `kindOf` write a command back. -/

namespace Sys2Proof

/-- The command that a word spells by the table's bits: the table gives no row any bits. -/
def decodeTableWord (_nbits _w : Nat) : Option Instr := none

/-! ### Fields, most significant byte first (R192) -/

/-- The number that bytes spell, most significant first. -/
def beNat : List Byte → Nat := List.foldl (fun n b => n * 256 + b.toNat) 0

/-- A number in `k` bytes, most significant first; what does not fit is cut off. -/
def beBytes : Nat → Nat → List Byte
  | 0, _ => []
  | k + 1, n => beBytes k (n / 256) ++ [BitVec.ofNat 8 n]

/-- The signed value of a two's complement field of `bits` bits. -/
def signedOf (bits n : Nat) : Int := if n < 2 ^ (bits - 1) then (n : Int) else (n : Int) - (2 ^ bits : Nat)

/-- A signed value as a field of `k` bytes in two's complement. -/
def beSigned (k : Nat) (z : Int) : List Byte := beBytes k (z % ((256 ^ k : Nat) : Int)).toNat

/-- Two bytes as a number. -/
def n16 (a b : Byte) : Nat := beNat [a, b]

/-- Four bytes as a number. -/
def n32 (a b c d : Byte) : Nat := beNat [a, b, c, d]

/-- Two bytes as a signed number. -/
def z16 (a b : Byte) : Int := signedOf 16 (beNat [a, b])

/-- Three bytes as a signed number. -/
def z24 (a b c : Byte) : Int := signedOf 24 (beNat [a, b, c])

/-! ### Lists -/

/-- One band: five coefficients of three bytes (R200). -/
def readBand : List Byte → Option (Band × List Byte)
  | a0 :: a1 :: a2 :: b0 :: b1 :: b2 :: c0 :: c1 :: c2 :: d0 :: d1 :: d2 :: e0 :: e1 :: e2 :: rest =>
    some ({ b0 := z24 a0 a1 a2, b1 := z24 b0 b1 b2, b2 := z24 c0 c1 c2, a1 := z24 d0 d1 d2, a2 := z24 e0 e1 e2 }, rest)
  | _ => none

def readBands : Nat → List Byte → Option (List Band × List Byte)
  | 0, bs => some ([], bs)
  | k + 1, bs =>
    match readBand bs with
    | none => none
    | some (b, rest) =>
      match readBands k rest with
      | none => none
      | some (l, rest) => some (b :: l, rest)

/-- The buses of a LOAD_PRESET: for each bus of the mask its offset, its band count and its bands (R67). -/
def readBuses : Nat → List Byte → Option (List BusContents × List Byte)
  | 0, bs => some ([], bs)
  | k + 1, o0 :: o1 :: n :: rest =>
    match readBands n.toNat rest with
    | none => none
    | some (bands, rest) =>
      match readBuses k rest with
      | none => none
      | some (l, rest) => some ({ offset := z16 o0 o1, bands := bands } :: l, rest)
  | _ + 1, _ => none

/-- The outcome of reading a list whose items may have no known form. -/
inductive Parsed (α : Type) where
  | done (items : List α) (rest : List Byte)
  | unknown (items : List α)
  | short
  deriving Repr

/-- One action: its kind, numbered in the order of the table of R147 with LINE SET before LINE CLEAR, then its fields. -/
def readAction : List Byte → Parsed RawAction
  | [] => .short
  | k :: bs =>
    match k.toNat, bs with
    | 0, p :: r0 :: r1 :: r2 :: r3 :: rest => .done [.fader p.toNat (n32 r0 r1 r2 r3)] rest
    | 1, m :: g0 :: g1 :: r0 :: r1 :: r2 :: r3 :: rest => .done [.offset m (z16 g0 g1) (n32 r0 r1 r2 r3)] rest
    | 2, m :: o :: rest => .done [.mute m o.toNat] rest
    | 3, s0 :: s1 :: rest => .done [.preset (n16 s0 s1)] rest
    | 4, c :: rest => .done [.format c.toNat] rest
    | 5, s :: rest => .done [.source s.toNat] rest
    | 6, l :: rest => .done [.lineSet l.toNat] rest
    | 7, l :: rest => .done [.lineClear l.toNat] rest
    | 8, l :: rest => .done [.lineToggle l.toNat] rest
    | 9, l :: w0 :: w1 :: w2 :: w3 :: rest => .done [.linePulse l.toNat (n32 w0 w1 w2 w3)] rest
    | 10, c :: p0 :: p1 :: p2 :: p3 :: rest => .done [.clock c.toNat (n32 p0 p1 p2 p3)] rest
    | 11, n0 :: n1 :: rest => .done [.mark (n16 n0 n1)] rest
    | k, _ => if k < 12 then .short else .unknown [.unknown k]

def readActions : Nat → List Byte → Parsed RawAction
  | 0, bs => .done [] bs
  | k + 1, bs =>
    match readAction bs with
    | .short => .short
    | .unknown l => .unknown l
    | .done l rest =>
      match readActions k rest with
      | .short => .short
      | .unknown l' => .unknown (l ++ l')
      | .done l' rest => .done (l ++ l') rest

/-- A condition: 0 absent, 1 a line level, 2 the format in force, 3 the playing slot, then its fields (R200). -/
def readCondition : List Byte → Option (RawCondition × List Byte)
  | [] => none
  | k :: bs =>
    match k.toNat, bs with
    | 0, rest => some (.absent, rest)
    | 1, l :: v :: rest => some (.lineLevel l.toNat v.toNat, rest)
    | 2, c :: rest => some (.format c.toNat, rest)
    | 3, s :: rest => some (.playing s.toNat, rest)
    | k, rest => if k < 4 then none else some (.unknown k, rest)

/-- A list preceded by its number that must fill the payload: none when the length is wrong. A list with an item of
no known form has no length to compare, and is kept up to that item; the number sent is not kept then, so a number above 4
with an item of no known form among the first four is refused with that item's index (DESIGN CHOICE, log 22). -/
def readWholeActions : List Byte → Option (List RawAction)
  | [] => none
  | n :: bs =>
    match readActions n.toNat bs with
    | .done l [] => some l
    | .unknown l => some l
    | _ => none

/-! ### Requests -/

/-- LOAD_PRESET's payload. -/
def readLoadPreset (q bad : Req) : List Byte → Instr
  | s0 :: s1 :: m :: mask :: rest =>
    match readBuses (maskCount mask) rest with
    | some (buses, []) => .loadPreset q (n16 s0 s1) m.toNat mask buses
    | _ => .loadPreset bad 0 0 0 []
  | _ => .loadPreset bad 0 0 0 []

/-- SET_ALARM's payload, whose threshold fields depend on the kind (R115). A kind of no known form keeps no fields. -/
def readSetAlarm (q bad : Req) : List Byte → Instr
  | [s, 0, l0, l1, h0, h1, r0, r1, r2, r3, c0, c1, c2, c3, la, i0, i1, i2, i3, n] =>
    .setAlarm q s.toNat 0 (z16 l0 l1) (z16 h0 h1) (n32 r0 r1 r2 r3) (n32 c0 c1 c2 c3) la.toNat (n32 i0 i1 i2 i3) n.toNat
  | [s, 1, t, r0, r1, r2, r3, c0, c1, c2, c3, la, i0, i1, i2, i3, n] =>
    .setAlarm q s.toNat 1 t.toNat 0 (n32 r0 r1 r2 r3) (n32 c0 c1 c2 c3) la.toNat (n32 i0 i1 i2 i3) n.toNat
  | [s, 2, f0, f1, r0, r1, r2, r3, c0, c1, c2, c3, la, i0, i1, i2, i3, n] =>
    .setAlarm q s.toNat 2 (z16 f0 f1) 0 (n32 r0 r1 r2 r3) (n32 c0 c1 c2 c3) la.toNat (n32 i0 i1 i2 i3) n.toNat
  | [s, 3, r0, r1, r2, r3, c0, c1, c2, c3, la, i0, i1, i2, i3, n] =>
    .setAlarm q s.toNat 3 0 0 (n32 r0 r1 r2 r3) (n32 c0 c1 c2 c3) la.toNat (n32 i0 i1 i2 i3) n.toNat
  | s :: k :: _ => if k.toNat < 4 then .setAlarm bad 0 0 0 0 0 0 0 0 0 else .setAlarm q s.toNat k.toNat 0 0 0 0 0 0 0
  | _ => .setAlarm bad 0 0 0 0 0 0 0 0 0

/-- LOAD_CUE's payload. -/
def readLoadCue (q bad : Req) : List Byte → Instr
  | s :: n0 :: n1 :: t0 :: t1 :: t2 :: t3 :: rest =>
    match readCondition rest with
    | some (.unknown k, _) => .loadCue q s.toNat (n16 n0 n1) (n32 t0 t1 t2 t3) (.unknown k) []
    | some (c, rest) =>
      match readWholeActions rest with
      | some l => .loadCue q s.toNat (n16 n0 n1) (n32 t0 t1 t2 t3) c l
      | none => .loadCue bad 0 0 0 .absent []
    | none => .loadCue bad 0 0 0 .absent []
  | _ => .loadCue bad 0 0 0 .absent []

/-- FIRE_ACTIONS's payload. -/
def readFireActions (q bad : Req) : List Byte → Instr
  | s :: rest =>
    match readWholeActions rest with
    | some l => .fireActions q s.toNat l
    | none => .fireActions bad 0 []
  | _ => .fireActions bad 0 []

/-- SET_LINE's payload: the line, the direction, then the fields of that direction in the order of R168. -/
def readSetLine (q bad : Req) : List Byte → Instr
  | [l, 0, d0, d1, d2, d3, e, a, s, c0, c1] =>
    .setLine q l.toNat (.input (n32 d0 d1 d2 d3) e.toNat a.toNat s.toNat (n16 c0 c1))
  | [l, 1, f, s, k, i, p] => .setLine q l.toNat (.output f.toNat s.toNat k.toNat i.toNat p.toNat)
  | l :: d :: _ => if d.toNat < 2 then .setLine bad 0 (.unknown 0) else .setLine q l.toNat (.unknown d.toNat)
  | _ => .setLine bad 0 (.unknown 0)

/-- The command that a request of the kind, tag and payload is (R192, R194, R200): a payload of a wrong length gives
the kind's command marked so, an unserved kind gives BAD_KIND. -/
def requestOf (tag kind : Byte) (payload : List Byte) : Instr :=
  let q : Req := { tag := tag, lengthOk := true }
  let bad : Req := { tag := tag, lengthOk := false }
  match kind.toNat with
  | 0x01 => match payload with
    | [s, l, a, b, c, d] => .bind q s.toNat l.toNat (BitVec.ofNat 32 (n32 a b c d))
    | _ => .bind bad 0 0 0
  | 0x02 => match payload with
    | [s, l] => .unbind q s.toNat l.toNat
    | _ => .unbind bad 0 0
  | 0x03 => match payload with
    | [s, a0, a1, b0, b1, c0, c1, p, e] => .setIntake q s.toNat (n16 a0 a1) (n16 b0 b1) (n16 c0 c1) p.toNat e.toNat
    | _ => .setIntake bad 0 0 0 0 0 0
  | 0x04 => match payload with
    | [s, l] => .setSource q s.toNat l.toNat
    | _ => .setSource bad 0 0
  | 0x05 => match payload with
    | [d] => .listSeen q d.toNat
    | _ => .listSeen bad 0
  | 0x06 => match payload with
    | [s, m, t, d0, d1] => .setLayout q s.toNat m t.toNat (n16 d0 d1)
    | _ => .setLayout bad 0 0 0 0
  | 0x07 => match payload with
    | [s, f] => .setFormat q s.toNat f.toNat
    | _ => .setFormat bad 0 0
  | 0x08 => match payload with
    | [s, p, r0, r1, r2, r3] => .setFader q s.toNat p.toNat (n32 r0 r1 r2 r3)
    | _ => .setFader bad 0 0 0
  | 0x09 => match payload with
    | [s, p] => .setLimit q s.toNat p.toNat
    | _ => .setLimit bad 0 0
  | 0x0A => match payload with
    | [s, m, t0, t1] => .setTrim q s.toNat m (z16 t0 t1)
    | _ => .setTrim bad 0 0 0
  | 0x0B => match payload with
    | [s, m, o] => .setMute q s.toNat m o.toNat
    | _ => .setMute bad 0 0 0
  | 0x0C => readLoadPreset q bad payload
  | 0x0D => match payload with
    | [s0, s1] => .dropPreset q (n16 s0 s1)
    | _ => .dropPreset bad 0
  | 0x0E => match payload with
    | [s, p0, p1] => .selectPreset q s.toNat (n16 p0 p1)
    | _ => .selectPreset bad 0 0
  | 0x0F => match payload with
    | [s, w0, w1, c0, c1] => .setMeter q s.toNat (n16 w0 w1) (z16 c0 c1)
    | _ => .setMeter bad 0 0 0
  | 0x10 => readSetAlarm q bad payload
  | 0x11 => match payload with
    | [s, k, b] => .ackAlarm q s.toNat k.toNat b.toNat
    | _ => .ackAlarm bad 0 0 0
  | 0x12 => match payload with
    | [s, e, st, i0, i1, i2, i3, f0, f1, r0, r1, r2, r3] =>
      .setGuard q s.toNat e.toNat st.toNat (n32 i0 i1 i2 i3) (z16 f0 f1) (n32 r0 r1 r2 r3)
    | _ => .setGuard bad 0 0 0 0 0 0
  | 0x13 => match payload with
    | [s, m, l0, l1, l2, l3, e, p0, p1, p2, p3, f0, f1, f2, f3] =>
      .setClock q s.toNat m.toNat (n32 l0 l1 l2 l3) e.toNat (n32 p0 p1 p2 p3) (n32 f0 f1 f2 f3)
    | _ => .setClock bad 0 0 0 0 0 0
  | 0x14 => match payload with
    | [s, c, p0, p1, p2, p3] => .clock q s.toNat c.toNat (n32 p0 p1 p2 p3)
    | _ => .clock bad 0 0 0
  | 0x15 => match payload with
    | [s, e, l, d, p0, p1, p2, p3] => .setTrigger q s.toNat e.toNat l.toNat d.toNat (n32 p0 p1 p2 p3)
    | _ => .setTrigger bad 0 0 0 0 0
  | 0x16 => match payload with
    | [s] => .readCapture q s.toNat
    | _ => .readCapture bad 0
  | 0x17 => readLoadCue q bad payload
  | 0x18 => match payload with
    | [s, n0, n1] => .dropCue q s.toNat (n16 n0 n1)
    | _ => .dropCue bad 0 0
  | 0x19 => match payload with
    | [s] => .clearCues q s.toNat
    | _ => .clearCues bad 0
  | 0x1A => match payload with
    | [s, n0, n1] => .fire q s.toNat (n16 n0 n1)
    | _ => .fire bad 0 0
  | 0x1B => readFireActions q bad payload
  | 0x1C => readSetLine q bad payload
  | 0x1D => match payload with
    | [l, o, w0, w1, w2, w3] => .driveLine q l.toNat o.toNat (n32 w0 w1 w2 w3)
    | _ => .driveLine bad 0 0 0
  | 0x1E => match payload with
    | [k, p] => .setPriority q k.toNat p.toNat
    | _ => .setPriority bad 0 0
  | 0x1F => match payload with
    | [t, u] => .setAttention q t.toNat u.toNat
    | _ => .setAttention bad 0 0
  | 0x20 => match payload with
    | [n0, n1] => .readEvents q (n16 n0 n1)
    | _ => .readEvents bad 0
  | 0x21 => match payload with
    | [n0, n1] => .releaseEvents q (n16 n0 n1)
    | _ => .releaseEvents bad 0
  | 0x22 => match payload with
    | [s, c] => .snapshot q s.toNat c.toNat
    | _ => .snapshot bad 0 0
  | 0x23 => match payload with
    | [s] => .readStats q s.toNat
    | _ => .readStats bad 0
  | 0x24 => match payload with
    | [] => .hello q
    | _ => .hello bad
  | 0x25 => match payload with
    | [s] => .query q s.toNat
    | _ => .query bad 0
  | 0x26 => match payload with
    | [] => .reset q
    | _ => .reset bad
  | 0x27 => match payload with
    | [s] => .screenReset q s.toNat
    | _ => .screenReset bad 0
  | _ => .badKind tag kind

/-- The command that serves a held frame. -/
def requestOfFrame (f : Frame) : Instr := requestOf f.tag f.kind f.payload

/-! ### Writing a request -/

def Band.bytes (b : Band) : List Byte :=
  beSigned 3 b.b0 ++ beSigned 3 b.b1 ++ beSigned 3 b.b2 ++ beSigned 3 b.a1 ++ beSigned 3 b.a2

def BusContents.bytes (c : BusContents) : List Byte :=
  beSigned 2 c.offset ++ beBytes 1 c.bands.length ++ c.bands.flatMap Band.bytes

def RawCondition.bytes : RawCondition → List Byte
  | .absent => [0]
  | .lineLevel line level => [1] ++ beBytes 1 line ++ beBytes 1 level
  | .format code => [2] ++ beBytes 1 code
  | .playing slot => [3] ++ beBytes 1 slot
  | .unknown kind => beBytes 1 kind

def RawAction.bytes : RawAction → List Byte
  | .fader position ramp => [0] ++ beBytes 1 position ++ beBytes 4 ramp
  | .offset mask gs ramp => [1, mask] ++ beSigned 2 gs ++ beBytes 4 ramp
  | .mute mask on => [2, mask] ++ beBytes 1 on
  | .preset slot => [3] ++ beBytes 2 slot
  | .format code => [4] ++ beBytes 1 code
  | .source slot => [5] ++ beBytes 1 slot
  | .lineSet line => [6] ++ beBytes 1 line
  | .lineClear line => [7] ++ beBytes 1 line
  | .lineToggle line => [8] ++ beBytes 1 line
  | .linePulse line width => [9] ++ beBytes 1 line ++ beBytes 4 width
  | .clock command position => [10] ++ beBytes 1 command ++ beBytes 4 position
  | .mark number => [11] ++ beBytes 2 number
  | .unknown kind => beBytes 1 kind

def RawLine.bytes : RawLine → List Byte
  | .input debounce edge action screen cue =>
    [0] ++ beBytes 4 debounce ++ beBytes 1 edge ++ beBytes 1 action ++ beBytes 1 screen ++ beBytes 2 cue
  | .output function screen alarm invert stop =>
    [1] ++ beBytes 1 function ++ beBytes 1 screen ++ beBytes 1 alarm ++ beBytes 1 invert ++ beBytes 1 stop
  | .unknown direction => beBytes 1 direction

/-- The threshold fields of SET_ALARM by kind (R115). -/
def alarmThresholdBytes (kind : Nat) (threshold hysteresis : Int) : List Byte :=
  match kind with
  | 0 => beSigned 2 threshold ++ beSigned 2 hysteresis
  | 1 => beSigned 1 threshold
  | 2 => beSigned 2 threshold
  | _ => []

/-- A request command as the frame that asks for it; none for a command that is no request, and for a request whose
payload had a wrong length, which its fields do not give. -/
def frameOf (c : Instr) : Option Frame :=
  let mk (q : Req) (kind : Byte) (payload : List Byte) : Option Frame :=
    if q.lengthOk then some { tag := q.tag, kind := kind, payload := payload } else none
  match c with
  | .bind q s l id => mk q 0x01 (beBytes 1 s ++ beBytes 1 l ++ beBytes 4 id.toNat)
  | .unbind q s l => mk q 0x02 (beBytes 1 s ++ beBytes 1 l)
  | .setIntake q s a b c p e =>
    mk q 0x03 (beBytes 1 s ++ beBytes 2 a ++ beBytes 2 b ++ beBytes 2 c ++ beBytes 1 p ++ beBytes 1 e)
  | .setSource q s l => mk q 0x04 (beBytes 1 s ++ beBytes 1 l)
  | .listSeen q d => mk q 0x05 (beBytes 1 d)
  | .setLayout q s m t d => mk q 0x06 (beBytes 1 s ++ [m] ++ beBytes 1 t ++ beBytes 2 d)
  | .setFormat q s f => mk q 0x07 (beBytes 1 s ++ beBytes 1 f)
  | .setFader q s p r => mk q 0x08 (beBytes 1 s ++ beBytes 1 p ++ beBytes 4 r)
  | .setLimit q s p => mk q 0x09 (beBytes 1 s ++ beBytes 1 p)
  | .setTrim q s m t => mk q 0x0A (beBytes 1 s ++ [m] ++ beSigned 2 t)
  | .setMute q s m o => mk q 0x0B (beBytes 1 s ++ [m] ++ beBytes 1 o)
  | .loadPreset q s m mask buses =>
    mk q 0x0C (beBytes 2 s ++ beBytes 1 m ++ [mask] ++ buses.flatMap BusContents.bytes)
  | .dropPreset q s => mk q 0x0D (beBytes 2 s)
  | .selectPreset q s p => mk q 0x0E (beBytes 1 s ++ beBytes 2 p)
  | .setMeter q s w c => mk q 0x0F (beBytes 1 s ++ beBytes 2 w ++ beSigned 2 c)
  | .setAlarm q s k t h r c l i n =>
    mk q 0x10 (beBytes 1 s ++ beBytes 1 k ++ alarmThresholdBytes k t h ++ beBytes 4 r ++ beBytes 4 c ++ beBytes 1 l ++
      beBytes 4 i ++ beBytes 1 n)
  | .ackAlarm q s k b => mk q 0x11 (beBytes 1 s ++ beBytes 1 k ++ beBytes 1 b)
  | .setGuard q s e st i f r =>
    mk q 0x12 (beBytes 1 s ++ beBytes 1 e ++ beBytes 1 st ++ beBytes 4 i ++ beSigned 2 f ++ beBytes 4 r)
  | .setClock q s m l e p f =>
    mk q 0x13 (beBytes 1 s ++ beBytes 1 m ++ beBytes 4 l ++ beBytes 1 e ++ beBytes 4 p ++ beBytes 4 f)
  | .clock q s c p => mk q 0x14 (beBytes 1 s ++ beBytes 1 c ++ beBytes 4 p)
  | .setTrigger q s e l d p => mk q 0x15 (beBytes 1 s ++ beBytes 1 e ++ beBytes 1 l ++ beBytes 1 d ++ beBytes 4 p)
  | .readCapture q s => mk q 0x16 (beBytes 1 s)
  | .loadCue q s n t c l =>
    mk q 0x17 (beBytes 1 s ++ beBytes 2 n ++ beBytes 4 t ++ c.bytes ++ beBytes 1 l.length ++ l.flatMap RawAction.bytes)
  | .dropCue q s n => mk q 0x18 (beBytes 1 s ++ beBytes 2 n)
  | .clearCues q s => mk q 0x19 (beBytes 1 s)
  | .fire q s n => mk q 0x1A (beBytes 1 s ++ beBytes 2 n)
  | .fireActions q s l => mk q 0x1B (beBytes 1 s ++ beBytes 1 l.length ++ l.flatMap RawAction.bytes)
  | .setLine q l f => mk q 0x1C (beBytes 1 l ++ f.bytes)
  | .driveLine q l o w => mk q 0x1D (beBytes 1 l ++ beBytes 1 o ++ beBytes 4 w)
  | .setPriority q k p => mk q 0x1E (beBytes 1 k ++ beBytes 1 p)
  | .setAttention q t u => mk q 0x1F (beBytes 1 t ++ beBytes 1 u)
  | .readEvents q n => mk q 0x20 (beBytes 2 n)
  | .releaseEvents q n => mk q 0x21 (beBytes 2 n)
  | .snapshot q s c => mk q 0x22 (beBytes 1 s ++ beBytes 1 c)
  | .readStats q s => mk q 0x23 (beBytes 1 s)
  | .hello q => mk q 0x24 []
  | .query q s => mk q 0x25 (beBytes 1 s)
  | .reset q => mk q 0x26 []
  | .screenReset q s => mk q 0x27 (beBytes 1 s)
  | _ => none

end Sys2Proof
end

