-- ==== Sys2Proof/Machine/State.lean ====
section
/-! DEFINITION. The state of the JA-8: everything the manual's chapters hold, block by block, and the machine right
after power-on. Plain data throughout. -/

namespace Sys2Proof.Machine

/-! ### Intake (chapter 1) -/

/-- A programme format code, 0 to 4 (section 1.1). -/
inductive Format where
  | mono
  | stereo
  | matrix
  | discrete6
  | discrete8
  deriving DecidableEq, Repr

/-- The state of a binding slot (section 1.2). -/
inductive SlotState where
  | empty
  | waiting
  | filling
  | ready
  | playing
  | starved
  | lost
  deriving DecidableEq, Repr

/-- One accepted packet's content (section 1.3). `channels` has an entry for each programme channel 0 to 7, the empty
list for a channel the mask does not name. -/
structure Block where
  seq : Seq
  position : Option Nat
  format : Format
  mask : Byte
  channels : Vector (List Int) 8
  deriving DecidableEq, Repr

/-- A binding slot (section 1.2) with its intake buffer, oldest block first (R8). -/
structure Slot where
  state : SlotState
  streamId : Option StreamId
  source : Option Mac
  holding : Bool
  lastAccepted : Option PartTime
  expected : Option Seq
  buffer : List Block
  deriving DecidableEq, Repr

inductive UnderrunPolicy where
  | conceal
  | silence
  | failover
  deriving DecidableEq, Repr

/-- A screen's two slots, its watermark settings (section 1.4) and its take state (section 1.5). -/
structure Intake where
  slotA : Slot
  slotB : Slot
  start : Nat
  low : Nat
  high : Nat
  policy : UnderrunPolicy
  pacing : Bool
  selection : Letter
  staged : Letter
  lastTaken : Option Block
  followingReal : Bool
  deriving DecidableEq, Repr

/-- What a take yields (section 1.5): a real block, or a concealed one, which carries no position and may carry no
format code (R20). -/
structure Taken where
  real : Bool
  position : Option Nat
  format : Option Format
  mask : Byte
  channels : Vector (List Int) 8
  deriving DecidableEq, Repr

/-- An entry of the seen list (R4). -/
structure SeenEntry where
  streamId : StreamId
  source : Mac
  format : Format
  deriving DecidableEq, Repr

/-- An Ethernet frame that the program port sends (section 1.4, section 11.4): its destination, type field and payload. -/
structure EthernetFrame where
  dest : Mac
  etherType : BitVec 16
  payload : List Byte
  deriving DecidableEq, Repr

/-! ### Decoder (chapter 2) -/

inductive Topology where
  | side
  | sideRear
  deriving DecidableEq, Repr

/-- A screen's decoder (section 2.1). `forced` is none for AUTO, `inForce` none for NONE. The delay line's newest entry
comes first (R40). -/
structure Decoder where
  mask : Byte
  topology : Topology
  delay : Nat
  forced : Option Format
  inForce : Option Format
  centre : Int
  surround : Int
  line : List (List Int)
  deriving DecidableEq, Repr

/-! ### Gain stage (chapter 3) -/

/-- A term ramped at a rate of its own (R51). -/
structure Ramp where
  current : Int
  target : Int
  rate : Nat
  deriving DecidableEq, Repr

/-- A term stepped at a fixed rate (R55, R56). -/
structure Stepped where
  current : Int
  target : Int
  deriving DecidableEq, Repr

/-- A screen's gain stage (section 3.1). -/
structure Gain where
  fader : Ramp
  faderPosition : Nat
  limit : Nat
  trims : Vector Int 8
  offsets : Vector Ramp 8
  mutes : Vector Stepped 8
  switchTerm : Stepped
  deriving DecidableEq, Repr

/-! ### Equaliser (chapter 4) -/

/-- A preset: contents for all eight buses (section 4.1). -/
structure Preset where
  buses : Vector BusContents 8
  deriving DecidableEq, Repr

/-- A selection target: a library slot, or none for NONE. -/
abbrev Target := Option PresetIx

/-- A band's filter history: its two previous inputs and outputs (R74). -/
structure BandHistory where
  x1 : Int
  x2 : Int
  y1 : Int
  y2 : Int
  deriving DecidableEq, Repr

inductive SwitchState where
  | idle
  | crossfade
  | cut
  deriving DecidableEq, Repr

inductive CutPhase where
  | fadeOut
  | fadeIn
  deriving DecidableEq, Repr

/-- A screen's equaliser: the switch record of section 4.4 (`waiting` is its pending target) and the chains of the active
and the incoming preset. `left` is the preset a cut in its FADE_IN has left, which its DONE record names (R85, log 29). -/
structure Equaliser where
  active : Target
  incoming : Option Target
  waiting : Option Target
  switch : SwitchState
  count : Nat
  phase : Option CutPhase
  delta : Nat
  left : Target
  chains : Vector (List BandHistory) 8
  inChains : Vector (List BandHistory) 8
  deriving DecidableEq, Repr

/-! ### Meters (chapter 5) -/

/-- A screen's meters (section 5.1) with their published readings (R96). Rings and histories are oldest first. -/
structure Meters where
  boundaryCount : Nat
  accumulators : Vector Nat 8
  ring : List Nat
  window : Nat
  busWindows : Vector (List Nat) 8
  clipHistories : Vector (List Bool) 8
  calibration : Int
  totalLevel : Int
  totalIntervals : Nat
  busLevels : Vector Int 8
  clipCounts : Vector Nat 8
  deriving DecidableEq, Repr

/-! ### Alarms and guard (chapter 6) -/

inductive AlarmState where
  | idle
  | pending
  | raised
  | clearing
  | latched
  deriving DecidableEq, Repr

/-- An alarm instance's record (section 6.1). -/
structure Alarm where
  state : AlarmState
  acknowledged : Bool
  dwell : Nat
  remindCount : Nat
  reminders : Nat
  deriving DecidableEq, Repr

/-- The settings of one alarm kind on a screen (R115). `threshold` is the limit of OVER_LEVEL, the clip threshold of
CLIP and the floor of SILENCE; `hysteresis` is OVER_LEVEL's; a field the kind does not have is 0. -/
structure AlarmSettings where
  threshold : Int
  hysteresis : Int
  raiseDwell : Nat
  clearDwell : Nat
  latch : Bool
  remindInterval : Nat
  remindLimit : Nat
  deriving DecidableEq, Repr

/-- A screen's alarm monitor: the 18 instances, the four kinds' settings, and the playing slot's state and letter as
the most recent close read them, which is the reading of a STREAM record (R113, log 21). -/
structure Alarms where
  overLevel : Alarm
  clip : Vector Alarm 8
  silence : Vector Alarm 8
  stream : Alarm
  overSettings : AlarmSettings
  clipSettings : AlarmSettings
  silenceSettings : AlarmSettings
  streamSettings : AlarmSettings
  streamState : SlotState
  streamLetter : Letter
  deriving DecidableEq, Repr

inductive GuardDirection where
  | none
  | down
  | up
  deriving DecidableEq, Repr

/-- A screen's guard (section 6.6). Interval and release time in ms. -/
structure GuardBlock where
  enabled : Bool
  value : Int
  step : Nat
  interval : Nat
  floor : Int
  release : Nat
  stepTimer : Nat
  releaseCount : Nat
  direction : GuardDirection
  deriving DecidableEq, Repr

/-! ### Show clock (chapter 7) -/

inductive ClockState where
  | stopped
  | running
  | held
  deriving DecidableEq, Repr

inductive ClockMode where
  | free
  | chase
  deriving DecidableEq, Repr

inductive EndMode where
  | once
  | loop
  deriving DecidableEq, Repr

inductive EdgeSelect where
  | rising
  | falling
  | both
  deriving DecidableEq, Repr

/-- A trigger table entry: a line, or none for NONE, and an edge (section 7.4). -/
structure Trigger where
  line : Option LineIx
  edge : EdgeSelect
  deriving DecidableEq, Repr

/-- A screen's show clock (section 7.1). -/
structure Clock where
  state : ClockState
  position : Nat
  evaluated : Nat
  mark : Bool
  mode : ClockMode
  length : Nat
  endMode : EndMode
  passWindow : Nat
  flywheelLimit : Nat
  flywheelCount : Nat
  startTrigger : Trigger
  stopTrigger : Trigger
  reloadTrigger : Trigger
  reloadPosition : Nat
  captureCurrent : Option Nat
  capturePrevious : Option Nat
  deriving DecidableEq, Repr

/-- A clock command (R134). -/
inductive ClockCommand where
  | start
  | stop
  | hold
  | reload (position : Nat)
  deriving DecidableEq, Repr

/-! ### Cues (chapter 8) -/

/-- A cue action, checked (R147). -/
inductive CueAction where
  | fader (position ramp : Nat)
  | offset (mask : Byte) (gs : Int) (ramp : Nat)
  | mute (mask : Byte) (on : Bool)
  | preset (target : Target)
  | format (forced : Option Format)
  | source (slot : Letter)
  | lineSet (line : LineIx)
  | lineClear (line : LineIx)
  | lineToggle (line : LineIx)
  | linePulse (line : LineIx) (width : Nat)
  | clock (command : ClockCommand)
  | mark (number : Nat)
  deriving DecidableEq, Repr

/-- A cue condition, checked (R144). -/
inductive Condition where
  | lineLevel (line : LineIx) (on : Bool)
  | format (code : Format)
  | playing (slot : Letter)
  deriving DecidableEq, Repr

inductive CueState where
  | armed
  | fired
  | passed
  | skipped
  deriving DecidableEq, Repr

/-- A cue entry (R144). -/
structure CueEntry where
  number : Nat
  time : Nat
  condition : Option Condition
  actions : List CueAction
  state : CueState
  deriving DecidableEq, Repr

/-- Where the content of an immediate slot came from (section 8.5). -/
inductive FireSource where
  | request
  | contact (line : LineIx)
  deriving DecidableEq, Repr

/-- A screen's immediate slot (section 8.5). -/
inductive Immediate where
  | empty
  | cue (number : Nat) (source : FireSource)
  | actions (actions : List CueAction) (source : FireSource)
  deriving DecidableEq, Repr

/-! ### Contact lines (chapter 9) -/

inductive StopPolicy where
  | retain
  | forceOff
  | forceOn
  deriving DecidableEq, Repr

/-- An output's function with the fields it uses (R168, R171). -/
inductive LineFunction where
  | cue (screen : ScreenIx) (stop : StopPolicy)
  | followAlarm (screen : ScreenIx) (kind : AlarmKind)
  | followClock (screen : ScreenIx)
  | followStream (screen : ScreenIx)
  deriving DecidableEq, Repr

/-- An input's action with the fields it uses (R168, R176). -/
inductive LineAction where
  | none
  | start (screen : ScreenIx)
  | stop (screen : ScreenIx)
  | reload (screen : ScreenIx)
  | capture (screen : ScreenIx)
  | fire (screen : ScreenIx) (cue : Nat)
  deriving DecidableEq, Repr

/-- A line's configuration: its direction and the fields of that direction (R168). -/
inductive LineConfig where
  | input (debounce : Nat) (edge : EdgeSelect) (action : LineAction)
  | output (function : LineFunction) (invert : Bool)
  deriving DecidableEq, Repr

/-- A contact line (section 9.1). `level` is the level of an input or of a CUE output; that of a FOLLOW output is
computed (R171, log 19). `pin` is the level the outside gives the pin (log 8); true is ON, the high level. -/
structure Line where
  config : LineConfig
  level : Bool
  pulse : Option PartTime
  raw : Bool
  debounceTimer : Option PartTime
  pin : Bool
  deriving DecidableEq, Repr

/-! ### Event queue and statistics (chapter 10) -/

/-- A record's kind and sub-kind (section 10.1). -/
inductive EventType where
  | alarmRaised
  | alarmCleared
  | alarmLatched
  | alarmRemind
  | alarmAcked
  | guardDown
  | guardUp
  | streamSeen
  | streamState
  | streamFailover
  | decodeFormat
  | presetDone
  | presetReplaced
  | presetRefused
  | cueFired
  | cuePassed
  | cueSkipped
  | cueFault
  | cueMark
  | clockState
  | clockEnd
  | clockHeld
  | clockReload
  | clockWrap
  | contactEdge
  deriving DecidableEq, Repr

/-- An event record (section 10.1). `detail` holds the detail fields as they are sent (R200). -/
structure EventRecord where
  what : EventType
  screen : Option ScreenIx
  time : PartTime
  position : Option Nat
  lost : Nat
  detail : List Byte
  deriving DecidableEq, Repr

/-- The kinds that have a priority (R182). -/
structure Priorities where
  alarm : Nat
  stream : Nat
  decode : Nat
  preset : Nat
  cue : Nat
  clock : Nat
  contact : Nat
  deriving DecidableEq, Repr

/-- The event queue (sections 10.1 to 10.4), oldest record first. -/
structure EventQueue where
  records : List EventRecord
  lost : Nat
  attention : Bool
  threshold : Nat
  urgent : Nat
  priorities : Priorities
  deriving DecidableEq, Repr

/-- The eleven counters of a screen, in the order of section 10.5. -/
structure Counters where
  packetsAccepted : Nat
  late : Nat
  duplicate : Nat
  resyncs : Nat
  blocksConcealed : Nat
  underruns : Nat
  failovers : Nat
  clipBlocks : Nat
  cuesFired : Nat
  cuesPassed : Nat
  alarmRaises : Nat
  deriving DecidableEq, Repr

/-- The three counters of the part (section 10.5). -/
structure PartCounters where
  framesDiscarded : Nat
  packetsUnmatched : Nat
  packetsMalformed : Nat
  deriving DecidableEq, Repr

/-! ### Control port (chapter 11) -/

/-- Where the port stands between power-on and RESET (R196, R198, log 6). -/
inductive PortPhase where
  | starting
  | accepting
  | resetServed
  deriving DecidableEq, Repr

/-- The control port: the receiver's bytes of the frame in progress (none when hunting) and the time of its last byte,
the holding area and the reply path, oldest first (R193 to R195). -/
structure Port where
  phase : PortPhase
  received : List Byte
  lastByte : PartTime
  holding : List Frame
  path : List Frame
  deriving DecidableEq, Repr

/-! ### The whole part -/

/-- The per-screen blocks of one screen (00_scope, "Block overview"). -/
structure Screen where
  intake : Intake
  decoder : Decoder
  gain : Gain
  equaliser : Equaliser
  meters : Meters
  alarms : Alarms
  guard : GuardBlock
  clock : Clock
  cues : List CueEntry
  immediate : Immediate
  live : Counters
  shadow : Counters
  snapshot : Option PartTime
  lane : Vector (List Int) 8
  deriving DecidableEq, Repr

/-- The state of the part. `controlOut` and `paceOut` are the frames and pace messages sent so far, oldest first
(outputs, log 9); `pending` is the queue of commands that wait, first in, first out. -/
structure State where
  time : PartTime
  screens : Vector Screen 8
  seen : List SeenEntry
  discovery : Bool
  library : Vector (Option Preset) 32
  lines : Vector Line 20
  queue : EventQueue
  partLive : PartCounters
  partShadow : PartCounters
  partSnapshot : Option PartTime
  port : Port
  controlOut : List (List Byte)
  paceOut : List EthernetFrame
  pending : List Instr
  deriving DecidableEq, Repr

/-- Faults. The manual gives the part no fault that stops it, so there is none: every command answers a next state. -/
inductive Fault where
  deriving DecidableEq, Repr

/-- Refusals. -/
inductive Refusal where
  /-- Raised by a dispatch arm for a command that has no meaning yet; no arm raises it. Safe: the machine stops. -/
  | notModelled (mnemonic : String)
  deriving DecidableEq, Repr

/-! ### Reset values -/

/-- 48 zero samples. -/
def zeroBlock : List Int := List.replicate 48 0

/-- An EMPTY slot (R26). -/
def Slot.reset : Slot :=
  { state := .empty, streamId := none, source := none, holding := false, lastAccepted := none, expected := none,
    buffer := [] }

/-- R26. -/
def Intake.reset : Intake :=
  { slotA := Slot.reset, slotB := Slot.reset, start := 8, low := 4, high := 48, policy := .conceal, pacing := true,
    selection := .a, staged := .a, lastTaken := none, followingReal := false }

/-- R45. -/
def Decoder.reset : Decoder :=
  { mask := 0, topology := .side, delay := 0, forced := none, inForce := none, centre := 0, surround := 0,
    line := List.replicate 41 zeroBlock }

/-- R64. The rates are DESIGN CHOICE 0 (log 29): no ramp is in progress. -/
def Gain.reset : Gain :=
  { fader := { current := 0, target := 0, rate := 0 }, faderPosition := 70, limit := 100,
    trims := Vector.replicate 8 0, offsets := Vector.replicate 8 { current := 0, target := 0, rate := 0 },
    mutes := Vector.replicate 8 { current := 0, target := 0 }, switchTerm := { current := 0, target := 0 } }

/-- R87. -/
def Equaliser.reset : Equaliser :=
  { active := none, incoming := none, waiting := none, switch := .idle, count := 0, phase := none, delta := 0,
    left := none, chains := Vector.replicate 8 [], inChains := Vector.replicate 8 [] }

/-- R100. -/
def Meters.reset : Meters :=
  { boundaryCount := 0, accumulators := Vector.replicate 8 0, ring := [], window := 100,
    busWindows := Vector.replicate 8 [], clipHistories := Vector.replicate 8 [], calibration := 1050,
    totalLevel := -1200, totalIntervals := 0, busLevels := Vector.replicate 8 (-1200),
    clipCounts := Vector.replicate 8 0 }

/-- An IDLE instance (R118). -/
def Alarm.reset : Alarm :=
  { state := .idle, acknowledged := false, dwell := 0, remindCount := 0, reminders := 0 }

/-- R118 with the defaults of R115. The reading of the most recent close is DESIGN CHOICE EMPTY, A (log 21). -/
def Alarms.reset : Alarms :=
  { overLevel := Alarm.reset, clip := Vector.replicate 8 Alarm.reset, silence := Vector.replicate 8 Alarm.reset,
    stream := Alarm.reset,
    overSettings := { threshold := 1050, hysteresis := 20, raiseDwell := 2000, clearDwell := 5000, latch := false,
                      remindInterval := 60, remindLimit := 0 },
    clipSettings := { threshold := 5, hysteresis := 0, raiseDwell := 0, clearDwell := 1000, latch := false,
                      remindInterval := 60, remindLimit := 0 },
    silenceSettings := { threshold := 300, hysteresis := 0, raiseDwell := 30000, clearDwell := 1000, latch := false,
                         remindInterval := 60, remindLimit := 0 },
    streamSettings := { threshold := 0, hysteresis := 0, raiseDwell := 100, clearDwell := 1000, latch := false,
                        remindInterval := 60, remindLimit := 0 },
    streamState := .empty, streamLetter := .a }

/-- R127. -/
def GuardBlock.reset : GuardBlock :=
  { enabled := false, value := 0, step := 3, interval := 500, floor := -36, release := 10000, stepTimer := 50,
    releaseCount := 0, direction := .none }

/-- R142. -/
def Clock.reset : Clock :=
  { state := .stopped, position := 0, evaluated := 0, mark := false, mode := .free, length := 0, endMode := .once,
    passWindow := 250, flywheelLimit := 2000, flywheelCount := 0,
    startTrigger := { line := none, edge := .rising }, stopTrigger := { line := none, edge := .rising },
    reloadTrigger := { line := none, edge := .rising }, reloadPosition := 0, captureCurrent := none,
    capturePrevious := none }

/-- R190. -/
def Counters.zero : Counters :=
  { packetsAccepted := 0, late := 0, duplicate := 0, resyncs := 0, blocksConcealed := 0, underruns := 0, failovers := 0,
    clipBlocks := 0, cuesFired := 0, cuesPassed := 0, alarmRaises := 0 }

/-- R190. -/
def PartCounters.zero : PartCounters := { framesDiscarded := 0, packetsUnmatched := 0, packetsMalformed := 0 }

/-- R190. -/
def EventQueue.reset : EventQueue :=
  { records := [], lost := 0, attention := false, threshold := 16, urgent := 6,
    priorities := { alarm := 6, stream := 5, decode := 3, preset := 3, cue := 3, clock := 3, contact := 2 } }

/-- Every per-screen block at its power-on values; the lane carries zeros (R62). -/
def Screen.reset : Screen :=
  { intake := Intake.reset, decoder := Decoder.reset, gain := Gain.reset, equaliser := Equaliser.reset,
    meters := Meters.reset, alarms := Alarms.reset, guard := GuardBlock.reset, clock := Clock.reset, cues := [],
    immediate := .empty, live := Counters.zero, shadow := Counters.zero, snapshot := none,
    lane := Vector.replicate 8 zeroBlock }

/-- R178, for a pin that reads the level given. -/
def Line.reset (pin : Bool) : Line :=
  { config := .input 20 .rising .none, level := pin, pulse := none, raw := pin, debounceTimer := none, pin := pin }

/-- The port before it begins accepting: hunting, nothing held, nothing to send (R193, R198). -/
def Port.reset : Port := { phase := .starting, received := [], lastByte := 0, holding := [], path := [] }

/-- The part right after power-on, before its READY: every block at its power-on values (R26, R45, R64, R87, R100,
R118, R127, R142, R166, R178, R190, R198), the library empty (R66), every line unconnected, nothing sent and nothing
waiting. -/
def State.reset : State :=
  { time := 0, screens := Vector.replicate 8 Screen.reset, seen := [], discovery := true,
    library := Vector.replicate 32 none, lines := Vector.replicate 20 (Line.reset true), queue := EventQueue.reset,
    partLive := PartCounters.zero, partShadow := PartCounters.zero, partSnapshot := none, port := Port.reset,
    controlOut := [], paceOut := [], pending := [] }

end Sys2Proof.Machine
end

