-- ==== Sys2Proof/Machine/Operands.lean ====
section
/-! DEFINITION. The operand forms: how the raw fields of a request name the things of the machine, and how the machine's
things are written into replies and records (R200, the field encodings of section 11.4). -/

namespace Sys2Proof

/-- A slot letter's code: A 0, B 1 (R200). -/
def Letter.code : Letter → Nat
  | .a => 0
  | .b => 1

/-- An alarm kind's code (R200). -/
def AlarmKind.code : AlarmKind → Nat
  | .overLevel => 0
  | .clip => 1
  | .silence => 2
  | .stream => 3

end Sys2Proof

namespace Sys2Proof.Machine

/-! ### Reading raw fields -/

/-- A screen field: 1 to 8. -/
def screenOf (n : Nat) : Option ScreenIx := if h : 1 ≤ n ∧ n ≤ 8 then some ⟨n - 1, by omega⟩ else none

/-- A line field that must name a line: 1 to 20. -/
def lineOf (n : Nat) : Option LineIx := if h : 1 ≤ n ∧ n ≤ 20 then some ⟨n - 1, by omega⟩ else none

/-- A bus field: 0 to 7. -/
def busOf (n : Nat) : Option Bus := if h : n < 8 then some ⟨n, h⟩ else none

/-- A library slot field: 1 to 32. -/
def presetOf (n : Nat) : Option PresetIx := if h : 1 ≤ n ∧ n ≤ 32 then some ⟨n - 1, by omega⟩ else none

/-- A selection target: NONE is 0, a slot 1 to 32. -/
def targetOf (n : Nat) : Option Target := if n = 0 then some none else (presetOf n).map some

/-- A line field that may be NONE: 0, or 1 to 20. -/
def lineOrNoneOf (n : Nat) : Option (Option LineIx) := if n = 0 then some none else (lineOf n).map some

/-- A slot letter: A 0, B 1. -/
def letterOf : Nat → Option Letter
  | 0 => some .a
  | 1 => some .b
  | _ => none

/-- An on/off field: off 0, on 1. -/
def onOf : Nat → Option Bool
  | 0 => some false
  | 1 => some true
  | _ => none

/-- A format code: 0 to 4. -/
def formatOf : Nat → Option Format
  | 0 => some .mono
  | 1 => some .stereo
  | 2 => some .matrix
  | 3 => some .discrete6
  | 4 => some .discrete8
  | _ => none

/-- A forced format: AUTO 0xFE, or a code. -/
def forcedOf (n : Nat) : Option (Option Format) := if n = 0xFE then some none else (formatOf n).map some

def policyOf : Nat → Option UnderrunPolicy
  | 0 => some .conceal
  | 1 => some .silence
  | 2 => some .failover
  | _ => none

def topologyOf : Nat → Option Topology
  | 0 => some .side
  | 1 => some .sideRear
  | _ => none

def alarmKindOf : Nat → Option AlarmKind
  | 0 => some .overLevel
  | 1 => some .clip
  | 2 => some .silence
  | 3 => some .stream
  | _ => none

def clockModeOf : Nat → Option ClockMode
  | 0 => some .free
  | 1 => some .chase
  | _ => none

def endModeOf : Nat → Option EndMode
  | 0 => some .once
  | 1 => some .loop
  | _ => none

def edgeOf : Nat → Option EdgeSelect
  | 0 => some .rising
  | 1 => some .falling
  | 2 => some .both
  | _ => none

def stopPolicyOf : Nat → Option StopPolicy
  | 0 => some .retain
  | 1 => some .forceOff
  | 2 => some .forceOn
  | _ => none

/-- A clock command: START 0, STOP 1, HOLD 2, RELOAD 3, whose position is read and may not be the absent one (R136,
R147). -/
def clockCommandOf (command position : Nat) : Option ClockCommand :=
  match command with
  | 0 => some .start
  | 1 => some .stop
  | 2 => some .hold
  | 3 => if position < Config.absentPosition then some (.reload position) else none
  | _ => none

/-- An operation on a CUE line: SET, CLEAR, TOGGLE, or PULSE with a width (R172). -/
inductive LineOperation where
  | set
  | clear
  | toggle
  | pulse (width : Nat)
  deriving DecidableEq, Repr

/-- A DRIVE_LINE operation; the width is read for PULSE only and must be 10 to 5,000 ms (R173). -/
def lineOperationOf (operation width : Nat) : Option LineOperation :=
  match operation with
  | 0 => some .set
  | 1 => some .clear
  | 2 => some .toggle
  | 3 => if 10 ≤ width ∧ width ≤ 5000 then some (.pulse width) else none
  | _ => none

/-! ### Codes of named values: numbered from 0 in the order their rule lists them, unless said otherwise (R200) -/

def ScreenIx.code (i : ScreenIx) : Nat := i.val + 1

def LineIx.code (l : LineIx) : Nat := l.val + 1

def boolCode : Bool → Nat
  | false => 0
  | true => 1

def Format.code : Format → Nat
  | .mono => 0
  | .stereo => 1
  | .matrix => 2
  | .discrete6 => 3
  | .discrete8 => 4

/-- A forced format: AUTO is 0xFE. -/
def forcedCode : Option Format → Nat
  | none => 0xFE
  | some f => f.code

/-- A format in force: NONE is 0xFF. -/
def inForceCode : Option Format → Nat
  | none => 0xFF
  | some f => f.code

def SlotState.code : SlotState → Nat
  | .empty => 0
  | .waiting => 1
  | .filling => 2
  | .ready => 3
  | .playing => 4
  | .starved => 5
  | .lost => 6

def UnderrunPolicy.code : UnderrunPolicy → Nat
  | .conceal => 0
  | .silence => 1
  | .failover => 2

def Topology.code : Topology → Nat
  | .side => 0
  | .sideRear => 1

def SwitchState.code : SwitchState → Nat
  | .idle => 0
  | .crossfade => 1
  | .cut => 2

/-- A cut phase; absent is all ones. -/
def phaseCode : Option CutPhase → Nat
  | some .fadeOut => 0
  | some .fadeIn => 1
  | none => 0xFF

def AlarmState.code : AlarmState → Nat
  | .idle => 0
  | .pending => 1
  | .raised => 2
  | .clearing => 3
  | .latched => 4

def GuardDirection.code : GuardDirection → Nat
  | .none => 0
  | .down => 1
  | .up => 2

def ClockState.code : ClockState → Nat
  | .stopped => 0
  | .running => 1
  | .held => 2

def ClockMode.code : ClockMode → Nat
  | .free => 0
  | .chase => 1

def EndMode.code : EndMode → Nat
  | .once => 0
  | .loop => 1

def EdgeSelect.code : EdgeSelect → Nat
  | .rising => 0
  | .falling => 1
  | .both => 2

def CueState.code : CueState → Nat
  | .armed => 0
  | .fired => 1
  | .passed => 2
  | .skipped => 3

def StopPolicy.code : StopPolicy → Nat
  | .retain => 0
  | .forceOff => 1
  | .forceOn => 2

/-- The number of an action's kind (R200: the order of the table of R147, LINE SET before LINE CLEAR). -/
def CueAction.kindCode : CueAction → Nat
  | .fader _ _ => 0
  | .offset _ _ _ => 1
  | .mute _ _ => 2
  | .preset _ => 3
  | .format _ => 4
  | .source _ => 5
  | .lineSet _ => 6
  | .lineClear _ => 7
  | .lineToggle _ => 8
  | .linePulse _ _ => 9
  | .clock _ => 10
  | .mark _ => 11

/-- The kind byte of an event record (section 11.4). -/
def EventType.kindCode : EventType → Nat
  | .alarmRaised | .alarmCleared | .alarmLatched | .alarmRemind | .alarmAcked => 1
  | .guardDown | .guardUp => 2
  | .streamSeen | .streamState | .streamFailover => 3
  | .decodeFormat => 4
  | .presetDone | .presetReplaced | .presetRefused => 5
  | .cueFired | .cuePassed | .cueSkipped | .cueFault | .cueMark => 6
  | .clockState | .clockEnd | .clockHeld | .clockReload | .clockWrap => 7
  | .contactEdge => 8

/-- The sub-kind byte of an event record, numbered from 1 in the order of section 10.1. -/
def EventType.subCode : EventType → Nat
  | .alarmRaised => 1
  | .alarmCleared => 2
  | .alarmLatched => 3
  | .alarmRemind => 4
  | .alarmAcked => 5
  | .guardDown => 1
  | .guardUp => 2
  | .streamSeen => 1
  | .streamState => 2
  | .streamFailover => 3
  | .decodeFormat => 1
  | .presetDone => 1
  | .presetReplaced => 2
  | .presetRefused => 3
  | .cueFired => 1
  | .cuePassed => 2
  | .cueSkipped => 3
  | .cueFault => 4
  | .cueMark => 5
  | .clockState => 1
  | .clockEnd => 2
  | .clockHeld => 3
  | .clockReload => 4
  | .clockWrap => 5
  | .contactEdge => 1

/-- A reply's status (R192). -/
inductive Status where
  | ok
  | busy
  | badArg
  | badKind
  | noSpace
  | noBands
  | inUse
  | notFound
  | state
  deriving DecidableEq, Repr

def Status.code : Status → Byte
  | .ok => 0x00
  | .busy => 0x01
  | .badArg => 0x02
  | .badKind => 0x03
  | .noSpace => 0x04
  | .noBands => 0x05
  | .inUse => 0x06
  | .notFound => 0x07
  | .state => 0x08

/-! ### Writing fields -/

def u8 (n : Nat) : List Byte := beBytes 1 n
def u16 (n : Nat) : List Byte := beBytes 2 n
def u32 (n : Nat) : List Byte := beBytes 4 n

/-- A gain or level: two bytes in two's complement. -/
def s16 (z : Int) : List Byte := beSigned 2 z

/-- A yes/no, on/off or flag field. -/
def flag (b : Bool) : List Byte := u8 (boolCode b)

/-- A position, all ones when absent. -/
def positionField (p : Option Nat) : List Byte := u32 (p.getD Config.absentPosition)

/-- A preset slot: NONE is 0. -/
def targetField : Target → List Byte
  | none => u16 0
  | some p => u16 (p.val + 1)

/-- An optional selection target: absent is all ones. -/
def optTargetField : Option Target → List Byte
  | none => u16 0xFFFF
  | some t => targetField t

/-- A line that may be NONE. -/
def lineField : Option LineIx → List Byte
  | none => u8 0
  | some l => u8 (LineIx.code l)

/-- A part time that may be absent: a presence byte and the time (R200). -/
def optTimeField : Option PartTime → List Byte
  | none => u8 0 ++ u32 0
  | some t => u8 1 ++ u32 t.toNat

/-- A list in a reply is preceded by its number of entries (R200, log 16). -/
def listField (entries : List (List Byte)) : List Byte := u8 entries.length ++ entries.flatten

/-- A payload that carries a status and the fields given. -/
def answer (st : Status) (fields : List Byte) : List Byte := st.code :: fields

/-- A refusal that carries its status alone (R192). -/
def refuse (st : Status) : List Byte := answer st []

end Sys2Proof.Machine
end

