-- ==== Sys2Proof/Machine/Arith.lean ====
section
/-! DEFINITION. The manual's arithmetic (R1): rounding, flooring, saturating, and the three logarithm and power laws
evaluated "as if exactly" (R41, R59, R93) by integer comparisons. -/

namespace Sys2Proof.Machine

/-- round(a / b): half toward positive infinity, floor(a / b + 1/2) (R1). -/
def roundDiv (a : Int) (b : Nat) : Int := (2 * a + b) / (2 * b : Nat)

/-- floor(v / 2), an arithmetic shift right by one (R1). -/
def half (v : Int) : Int := v / 2

def clampInt (lo hi v : Int) : Int := max lo (min hi v)

def sampleMax : Int := 8388607
def sampleMin : Int := -8388608

/-- Saturation to the sample range (R1, R60). -/
def saturate (v : Int) : Int := clampInt sampleMin sampleMax v

/-- Whether a value lies outside the sample range, so that saturation changes it. -/
def overflows (v : Int) : Bool := decide (v < sampleMin) || decide (sampleMax < v)

/-- A counter's next value: 32 bits, saturating (R187). -/
def bumped (n : Nat) : Nat := min (n + 1) 4294967295

/-- The greatest n below 2^bits for which p holds, when p holds up to some point and not beyond; 0 when it never holds
past 0. -/
def greatest (p : Nat → Bool) : Nat → Nat → Nat
  | 0, acc => acc
  | bits + 1, acc => greatest p bits (if p (acc + 2 ^ bits) then acc + 2 ^ bits else acc)

/-- 10^e ≤ num / den, for an integer exponent. -/
def powTenLe (e : Int) (num den : Nat) : Bool :=
  if 0 ≤ e then decide (10 ^ e.toNat * den ≤ num) else decide (den ≤ num * 10 ^ (-e).toNat)

/-- r ≤ round(k × log10(num / den)), that is r - 1/2 ≤ k log10(num / den), that is 10^(2r-1) ≤ (num / den)^(2k). -/
def roundedLogAtLeast (k num den : Nat) (r : Int) : Bool := powTenLe (2 * r - 1) (num ^ (2 * k)) (den ^ (2 * k))

/-- g = round(2^20 × 10^(T/120)) (R59): the greatest g with g - 1/2 ≤ 2^20 × 10^(T/120), that is
(2g-1)^120 ≤ (2^21)^120 × 10^T. Every g is below 2^23 for T up to 72. -/
def multiplier (t : Int) : Nat :=
  greatest (fun g => powTenLe (-t) ((2 ^ 21) ^ 120) ((2 * g - 1) ^ 120)) 23 0

/-- The level in dBFS_dL of n intervals whose energies sum to Σ (R93): round(100 × log10(Σ / (480 n 2^46))), not
below -1,200, and -1,200 when the mean square is 0 or there is no interval. The search reaches +847, far above the
largest level the windows can hold (log 28). -/
def levelOf (sum n : Nat) : Int :=
  if sum = 0 ∨ n = 0 then -1200
  else -1200 + (greatest (fun c => roundedLogAtLeast 100 sum (480 * n * 2 ^ 46) (-1200 + (c : Int))) 11 0 : Nat)

/-- The dominance of a MATRIX block (R41): round(60 × log10(Ec/Es)) clamped to -120 to 120, and its three corners. -/
def dominance (ec es : Nat) : Int :=
  if es = 0 then (if ec = 0 then 0 else 120)
  else if ec = 0 then -120
  else min 120 (-120 + (greatest (fun c => roundedLogAtLeast 60 ec es (-120 + (c : Int))) 8 0 : Nat))

/-- One step of a term toward its target by at most `rate`, without overshoot (R51). -/
def stepToward (current target : Int) (rate : Nat) : Int :=
  if current < target then min target (current + rate)
  else if target < current then max target (current - rate)
  else current

/-- ceil(|target - current| / d), the rate of a ramp over d boundaries (R51). -/
def rampRate (current target : Int) (d : Nat) : Nat := ((target - current).natAbs + d - 1) / d

/-- A duration rounded up to a multiple of 10 ms (R115, R126). -/
def roundUpTen (ms : Nat) : Nat := (ms + 9) / 10 * 10

/-- The sum of the squares of a block's samples, formed exactly (R41, R89). -/
def energy (samples : List Int) : Nat := (samples.map (fun y => (y * y).toNat)).sum

/-- A part time has been reached: at most half the 32-bit range lies between it and now (part time wraps; log 3). -/
def reached (now deadline : PartTime) : Bool := decide ((now - deadline).toNat < 2 ^ 31)

/-- At least `ms` of part time have passed since `since` (R23, R193; log 3). -/
def elapsed (now since : PartTime) (ms : Nat) : Bool := decide (ms ≤ (now - since).toNat)

end Sys2Proof.Machine
end

