-- ==== Sys2Proof/Machine/Ops.lean ====
section
/-! DEFINITION. The named operations over the state that the blocks share: reaching a screen's blocks, counting, posting
a record (R179 to R181, R185), placing a reply (R195), sending a pace message, and serving a request (R194, R195). -/

namespace Sys2Proof.Machine

/-! ### A screen's blocks -/

/-- Screen i. -/
def State.scr (s : State) (i : ScreenIx) : Screen := s.screens[i]

def State.modScreen (s : State) (i : ScreenIx) (f : Screen → Screen) : State :=
  { s with screens := s.screens.set i (f (s.scr i)) }

def State.modIntake (s : State) (i : ScreenIx) (f : Intake → Intake) : State :=
  s.modScreen i (fun c => { c with intake := f c.intake })

def State.modDecoder (s : State) (i : ScreenIx) (f : Decoder → Decoder) : State :=
  s.modScreen i (fun c => { c with decoder := f c.decoder })

def State.modGain (s : State) (i : ScreenIx) (f : Gain → Gain) : State :=
  s.modScreen i (fun c => { c with gain := f c.gain })

def State.modEqualiser (s : State) (i : ScreenIx) (f : Equaliser → Equaliser) : State :=
  s.modScreen i (fun c => { c with equaliser := f c.equaliser })

def State.modMeters (s : State) (i : ScreenIx) (f : Meters → Meters) : State :=
  s.modScreen i (fun c => { c with meters := f c.meters })

def State.modAlarms (s : State) (i : ScreenIx) (f : Alarms → Alarms) : State :=
  s.modScreen i (fun c => { c with alarms := f c.alarms })

def State.modGuard (s : State) (i : ScreenIx) (f : GuardBlock → GuardBlock) : State :=
  s.modScreen i (fun c => { c with guard := f c.guard })

def State.modClock (s : State) (i : ScreenIx) (f : Clock → Clock) : State :=
  s.modScreen i (fun c => { c with clock := f c.clock })

def State.modCues (s : State) (i : ScreenIx) (f : List CueEntry → List CueEntry) : State :=
  s.modScreen i (fun c => { c with cues := f c.cues })

def State.setImmediate (s : State) (i : ScreenIx) (m : Immediate) : State :=
  s.modScreen i (fun c => { c with immediate := m })

/-- A change of screen i's live counters (R187). -/
def State.modLive (s : State) (i : ScreenIx) (f : Counters → Counters) : State :=
  s.modScreen i (fun c => { c with live := f c.live })

def State.setLane (s : State) (i : ScreenIx) (out : Vector (List Int) 8) : State :=
  s.modScreen i (fun c => { c with lane := out })

def Intake.slot (k : Intake) : Letter → Slot
  | .a => k.slotA
  | .b => k.slotB

def Intake.setSlot (k : Intake) (l : Letter) (x : Slot) : Intake :=
  match l with
  | .a => { k with slotA := x }
  | .b => { k with slotB := x }

/-- Slot l of screen i. -/
def State.slot (s : State) (i : ScreenIx) (l : Letter) : Slot := (s.scr i).intake.slot l

def State.modSlot (s : State) (i : ScreenIx) (l : Letter) (f : Slot → Slot) : State :=
  s.modIntake i (fun k => k.setSlot l (f (k.slot l)))

/-! ### Lines and part counters -/

/-- Line l. -/
def State.line (s : State) (l : LineIx) : Line := s.lines[l]

def State.modLine (s : State) (l : LineIx) (f : Line → Line) : State :=
  { s with lines := s.lines.set l (f (s.line l)) }

def State.modPort (s : State) (f : Port → Port) : State := { s with port := f s.port }

def State.modQueue (s : State) (f : EventQueue → EventQueue) : State := { s with queue := f s.queue }

def State.modPartLive (s : State) (f : PartCounters → PartCounters) : State := { s with partLive := f s.partLive }

/-- One more discarded frame (R193). -/
def State.countDiscard (s : State) : State :=
  s.modPartLive (fun c => { c with framesDiscarded := bumped c.framesDiscarded })

/-! ### The reply path (R195, R196) -/

/-- Places a frame at the end of the reply path. -/
def State.pushPath (s : State) (f : Frame) : State := s.modPort (fun p => { p with path := p.path ++ [f] })

/-- The ATTENTION notice: kind 0xC1, tag 0, no payload (R192, R196). -/
def attentionNotice : Frame := { tag := 0, kind := 0xC1, payload := [] }

/-- The READY notice: kind 0xC0, tag 0, no payload (R192, R196). -/
def readyNotice : Frame := { tag := 0, kind := 0xC0, payload := [] }

/-- A reply: the request's tag, its kind plus 0x40, and a payload that begins with a status (R192). -/
def replyFrame (tag kind : Byte) (payload : List Byte) : Frame := { tag := tag, kind := kind + 0x40, payload := payload }

/-! ### Event records (R179 to R181, R185) -/

/-- The priority that decides a record's admission; GUARD has that of ALARM (R180, section 10.2). -/
def Priorities.of (p : Priorities) (what : EventType) : Nat :=
  match what.kindCode with
  | 1 => p.alarm
  | 2 => p.alarm
  | 3 => p.stream
  | 4 => p.decode
  | 5 => p.preset
  | 6 => p.cue
  | 7 => p.clock
  | _ => p.contact

/-- R180: p above 0, F below 224 unless p is 5 or more, F below 256. -/
def admits (p fill : Nat) : Bool := decide (0 < p) && (decide (fill < 224) || decide (5 ≤ p)) && decide (fill < Config.queuePlaces)

/-- Posts a record with the show position given: admitted, discarded or lost (R180), carrying off the lost count when
admitted (R181), and sending the ATTENTION notice when the threshold or the urgent level asks for it (R185). -/
def State.postAt (s : State) (what : EventType) (screen : Option ScreenIx) (position : Option Nat) (detail : List Byte) :
    State :=
  let q := s.queue
  let p := q.priorities.of what
  if p = 0 then s
  else if admits p q.records.length then
    let record : EventRecord :=
      { what := what, screen := screen, time := s.time, position := position, lost := q.lost, detail := detail }
    let notify := !q.attention && (decide (q.threshold ≤ q.records.length + 1) || decide (q.urgent ≤ p))
    let s := s.modQueue (fun q => { q with records := q.records ++ [record], lost := 0, attention := q.attention || notify })
    if notify then s.pushPath attentionNotice else s
  else s.modQueue (fun q => { q with lost := min (q.lost + 1) 65535 })

/-- Posts a record of screen i, with the screen's show position (section 10.1). -/
def State.post (s : State) (what : EventType) (i : ScreenIx) (detail : List Byte) : State :=
  s.postAt what (some i) (some (s.scr i).clock.position) detail

/-! ### Pace messages (section 1.4) -/

/-- The Ethernet type of audio packets and pace messages (R2). -/
def audioType : BitVec 16 := 0x88B5

/-- The payload of a pace message (section 11.4): kind 0x01 PACE_HOLD or 0x02 PACE_GO, the stream ID, the hold count, and
zeros up to the Ethernet minimum (log 30). -/
def pacePayload (hold : Bool) (id : StreamId) (count : Nat) : List Byte :=
  let fields := u8 (if hold then 0x01 else 0x02) ++ u32 id.toNat ++ u16 count
  fields ++ List.replicate (Config.ethernetMinimum - fields.length) 0

/-- Sends a pace message for slot l of screen i to its learned source address. A slot that has learned no address, or
holds no stream ID, has nowhere to send. -/
def State.sendPace (s : State) (i : ScreenIx) (l : Letter) (hold : Bool) (count : Nat) : State :=
  match (s.slot i l).source, (s.slot i l).streamId with
  | some dest, some id =>
    { s with paceOut := s.paceOut ++ [{ dest := dest, etherType := audioType, payload := pacePayload hold id count }] }
  | _, _ => s

/-- The ending of holding: one PACE_GO, and holding is cleared; a slot that is not holding sends none (R15). -/
def State.endHolding (s : State) (i : ScreenIx) (l : Letter) : State :=
  if (s.slot i l).holding then (s.sendPace i l false 0).modSlot i l (fun x => { x with holding := false }) else s

/-! ### Service (R194, R195) -/

/-- Whether the port would hand the request command `c` to service now: it is accepting (R196, R198), the reply path
holds fewer than 15 frames (R195), and `c` is the oldest request: the one the oldest held frame asks for, or, when no
frame is held, one handed over by itself (log 4). -/
def State.serves (s : State) (c : Instr) : Bool :=
  decide (s.port.phase = .accepting) && decide (s.port.path.length < 15) &&
    match s.port.holding with
    | [] => true
    | f :: _ => decide (requestOfFrame f = c)

/-- The request leaves the holding area as service of it begins (R194). -/
def State.beginService (s : State) : State := s.modPort (fun p => { p with holding := p.holding.tail })

/-- Serves a request of the kind given by its body, which answers the state and the reply's payload. A payload of a wrong
length is answered by the port itself (R194). A request that is not to be served now changes nothing. -/
def State.serve (s : State) (c : Instr) (q : Req) (kind : Byte) (badLength : List Byte) (body : State → State × List Byte) :
    State :=
  if s.serves c then
    let s := s.beginService
    if q.lengthOk then
      let r := body s
      r.1.pushPath (replyFrame q.tag kind r.2)
    else s.pushPath (replyFrame q.tag kind badLength)
  else s

end Sys2Proof.Machine
end

