-- ==== Sys2Proof/Machine/Flags.lean ====
section
/-! DEFINITION. What is read off the state and held nowhere: the level of a line (R170, R171), whether a library slot is
in use (R66), the band requirement, the bands held and the pool's free count (R71), the cue pool's free count (R144),
the preset offsets in force (R79). -/

namespace Sys2Proof.Machine

/-! ### Alarm instances by name -/

def Alarms.get (a : Alarms) : AlarmId → Alarm
  | .overLevel => a.overLevel
  | .clip b => a.clip[b]
  | .silence b => a.silence[b]
  | .stream => a.stream

def Alarms.put (a : Alarms) (id : AlarmId) (x : Alarm) : Alarms :=
  match id with
  | .overLevel => { a with overLevel := x }
  | .clip b => { a with clip := a.clip.set b x }
  | .silence b => { a with silence := a.silence.set b x }
  | .stream => { a with stream := x }

def Alarms.settings (a : Alarms) : AlarmKind → AlarmSettings
  | .overLevel => a.overSettings
  | .clip => a.clipSettings
  | .silence => a.silenceSettings
  | .stream => a.streamSettings

end Sys2Proof.Machine

namespace Sys2Proof

def AlarmId.kind : AlarmId → AlarmKind
  | .overLevel => .overLevel
  | .clip _ => .clip
  | .silence _ => .silence
  | .stream => .stream

def AlarmId.bus : AlarmId → Option Bus
  | .clip b => some b
  | .silence b => some b
  | _ => none

/-- The instances of a kind, in bus order (section 6.1). -/
def AlarmKind.ids : AlarmKind → List AlarmId
  | .overLevel => [.overLevel]
  | .clip => (List.finRange 8).map AlarmId.clip
  | .silence => (List.finRange 8).map AlarmId.silence
  | .stream => [.stream]

/-- The 18 instances in the order of evaluation (R102). -/
def AlarmId.all : List AlarmId :=
  AlarmKind.ids .overLevel ++ AlarmKind.ids .clip ++ AlarmKind.ids .silence ++ AlarmKind.ids .stream

end Sys2Proof

namespace Sys2Proof.Machine

/-- An instance whose alarm a FOLLOW_ALARM line sees: RAISED, CLEARING or LATCHED (R117, R171). -/
def Alarm.stands (x : Alarm) : Bool :=
  match x.state with
  | .raised => true
  | .clearing => true
  | .latched => true
  | _ => false

/-- At least one instance of the kind stands (R171). -/
def Alarms.anyStands (a : Alarms) (k : AlarmKind) : Bool := k.ids.any (fun id => (a.get id).stands)

/-- The screen's playing slot: the one its selection in force names (R17). -/
def State.playingSlot (s : State) (i : ScreenIx) : Slot := s.slot i (s.scr i).intake.selection

/-- The level a line reads: an input's debounced level, a CUE output's level, and what a FOLLOW function gives from the
state it follows (R170, R171). DEDUCED: a FOLLOW_STREAM line stays ON at a gap, where the take conceals and the slot stays
PLAYING (log 42). -/
def State.lineLevel (s : State) (l : LineIx) : Bool :=
  match (s.line l).config with
  | .input _ _ _ => (s.line l).level
  | .output (.cue _ _) _ => (s.line l).level
  | .output (.followAlarm i k) _ => (s.scr i).alarms.anyStands k
  | .output (.followClock i) _ => decide ((s.scr i).clock.state = .running)
  | .output (.followStream i) _ => decide ((s.playingSlot i).state = .playing)

/-- The level at an output's pin: the line's level, inverted last (R170); none for an input, which is never driven
(R168). -/
def State.drivenPin (s : State) (l : LineIx) : Option Bool :=
  match (s.line l).config with
  | .input _ _ _ => none
  | .output _ invert => some (xor (s.lineLevel l) invert)

/-- The screen whose cues drive the line, for a CUE output (R160, R172). -/
def Line.cueScreen (x : Line) : Option ScreenIx :=
  match x.config with
  | .output (.cue i _) _ => some i
  | _ => none

/-! ### Presets and the band pool -/

def Decoder.present (d : Decoder) (b : Bus) : Bool := d.mask.getLsbD b.val

/-- The contents that a target has for a bus: NONE and an EMPTY slot have no bands and offset 0. -/
def State.contents (s : State) (t : Target) (b : Bus) : BusContents :=
  match t with
  | none => { offset := 0, bands := [] }
  | some p =>
    match s.library[p] with
    | none => { offset := 0, bands := [] }
    | some x => x.buses[b]

/-- The requirement of a target over the buses a mask names (R71). -/
def State.requirementOver (s : State) (t : Target) (mask : Byte) : Nat :=
  ((List.finRange 8).map (fun b => if mask.getLsbD b.val then (s.contents t b).bands.length else 0)).sum

/-- The requirement of a target on screen i (R71). -/
def State.requirement (s : State) (i : ScreenIx) (t : Target) : Nat := s.requirementOver t (s.scr i).decoder.mask

/-- The bands screen i holds: its active preset's, its incoming preset's during a crossfade, and the delta reservation
during the fade-out of a cut (R71). -/
def State.bandsHeld (s : State) (i : ScreenIx) : Nat :=
  let e := (s.scr i).equaliser
  s.requirement i e.active +
    (if e.switch = .crossfade then s.requirement i (e.incoming.getD none) else 0) +
    (if e.switch = .cut ∧ e.phase = some .fadeOut then e.delta else 0)

/-- The bands held by all screens together (R71). -/
def State.bandsHeldInAll (s : State) : Nat := ((List.finRange 8).map s.bandsHeld).sum

/-- The pool's free count (R71). -/
def State.bandsFree (s : State) : Nat := Config.bandPool - s.bandsHeldInAll

/-- A screen names the slot as active, incoming or pending (R66). -/
def Equaliser.names (e : Equaliser) (p : PresetIx) : Bool :=
  decide (e.active = some p) || decide (e.incoming = some (some p)) || decide (e.waiting = some (some p))

/-- The slot is in use on some screen (R66). -/
def State.inUse (s : State) (p : PresetIx) : Bool :=
  (List.finRange 8).any (fun i => (s.scr i).equaliser.names p)

/-- The preset offset handed on for a bus (R79): mixed by the crossfade count in a crossfade, else the active preset's. -/
def State.offsetInForce (s : State) (i : ScreenIx) (b : Bus) : Int :=
  let e := (s.scr i).equaliser
  let old := (s.contents e.active b).offset
  match e.switch with
  | .crossfade =>
    let new := (s.contents (e.incoming.getD none) b).offset
    ((32 - (e.count : Int)) * old + (e.count : Int) * new) / 32
  | _ => old

/-! ### Cues -/

/-- Free entries of the cue pool (R144). -/
def State.cuesFree (s : State) : Nat :=
  Config.cuePool - ((List.finRange 8).map (fun i => (s.scr i).cues.length)).sum

/-- The entry of a number in screen i's list. -/
def State.findCue (s : State) (i : ScreenIx) (number : Nat) : Option CueEntry :=
  (s.scr i).cues.find? (fun e => decide (e.number = number))

end Sys2Proof.Machine
end

