-- ==== Sys2Proof/Machine/Intake.lean ====
section
/-! DEFINITION. Stream intake and binding (chapter 1): the program port, the binding table, the intake buffers, pacing,
the take, and the requests BIND, UNBIND, SET_INTAKE, SET_SOURCE and LIST_SEEN. -/

namespace Sys2Proof.Machine

/-! ### Slots -/

/-- The distance of a sequence number from the expected one, modulo 65,536 (section 1.3). -/
def seqDistance (q e : Seq) : Nat := (q - e).toNat

/-- The expected sequence of a slot; a slot that has none is not asked. -/
def Slot.next (x : Slot) : Seq := x.expected.getD 0

def Slot.fill (x : Slot) : Nat := x.buffer.length

/-- Posts the STREAM STATE record of a slot: its letter, stream ID, previous and new states, and the fill (R5). -/
def State.postSlotState (s : State) (i : ScreenIx) (l : Letter) (id : Option StreamId) (old new : SlotState) : State :=
  s.post .streamState i
    (u8 l.code ++ u32 (id.getD (BitVec.allOnes 32)).toNat ++ u8 old.code ++ u8 new.code ++ u16 (s.slot i l).fill)

/-- A slot takes a state; a change posts STREAM STATE with the fill as it stands (R5). -/
def State.enterSlotState (s : State) (i : ScreenIx) (l : Letter) (new : SlotState) : State :=
  let x := s.slot i l
  if x.state = new then s
  else (s.modSlot i l (fun x => { x with state := new })).postSlotState i l x.streamId x.state new

/-- The standby slide (R13): the oldest blocks leave until the fill is the start level, and the expected sequence
follows the last one removed. -/
def Slot.slide (start : Nat) (x : Slot) : Slot :=
  let gone := x.buffer.take (x.fill - start)
  match gone.getLast? with
  | none => x
  | some b => { x with buffer := x.buffer.drop (x.fill - start), expected := some (b.seq + 1) }

/-- The slot becomes READY, sliding down to the start level (R12, R13, R16, R18). -/
def State.enterReady (s : State) (i : ScreenIx) (l : Letter) : State :=
  (s.modSlot i l (Slot.slide (s.scr i).intake.start)).enterSlotState i l .ready

/-- Inserts a block at its place in sequence order from the expected sequence (R10). -/
def insertBlock (e : Seq) (b : Block) : List Block → List Block
  | [] => [b]
  | c :: rest => if seqDistance b.seq e < seqDistance c.seq e then b :: c :: rest else c :: insertBlock e b rest

/-- Sends PACE_HOLD for a PLAYING slot that has reached the high watermark, with pacing enabled and not holding yet
(R14). -/
def State.considerHold (s : State) (i : ScreenIx) (l : Letter) : State :=
  let k := (s.scr i).intake
  let x := s.slot i l
  if k.high ≤ x.fill ∧ k.pacing ∧ ¬ x.holding then
    (s.sendPace i l true (x.fill - k.start)).modSlot i l (fun x => { x with holding := true })
  else s

/-- Sends PACE_GO when a holding slot's fill is at or below the low watermark (R14). -/
def State.considerGo (s : State) (i : ScreenIx) (l : Letter) : State :=
  if (s.slot i l).fill ≤ (s.scr i).intake.low then s.endHolding i l else s

/-! ### Packets (section 1.1) -/

/-- The first packet in WAITING or LOST begins a new fill (R9). -/
def State.beginFill (s : State) (i : ScreenIx) (l : Letter) (b : Block) (source : Mac) : State :=
  let now := s.time
  let s := s.modSlot i l (fun x =>
    { x with expected := some b.seq, buffer := [b], source := some source, lastAccepted := some now })
  let s := s.modLive i (fun c => { c with packetsAccepted := bumped c.packetsAccepted })
  s.enterSlotState i l .filling

/-- A packet far ahead resyncs its slot (R11). -/
def State.resync (s : State) (i : ScreenIx) (l : Letter) (b : Block) : State :=
  let now := s.time
  let s := s.endHolding i l
  let s := s.modSlot i l (fun x => { x with expected := some b.seq, buffer := [b], lastAccepted := some now })
  let s := s.modLive i (fun c =>
    { c with packetsAccepted := bumped c.packetsAccepted, resyncs := bumped c.resyncs })
  s.enterSlotState i l .filling

/-- After an insertion the slot's state and pacing are examined again (R12, R13, R14). -/
def State.afterInsertion (s : State) (i : ScreenIx) (l : Letter) : State :=
  let k := (s.scr i).intake
  let x := s.slot i l
  match x.state with
  | .filling => if k.start ≤ x.fill then s.enterReady i l else s
  | .starved =>
    if k.start ≤ x.fill then
      if k.selection = l then s.enterSlotState i l .playing else s.enterReady i l
    else s
  | .ready => s.modSlot i l (Slot.slide k.start)
  | .playing => s.considerHold i l
  | _ => s

/-- Inserts a block in the window (R10). -/
def State.insert (s : State) (i : ScreenIx) (l : Letter) (b : Block) : State :=
  let now := s.time
  let s := s.modSlot i l (fun x => { x with buffer := insertBlock x.next b x.buffer, lastAccepted := some now })
  let s := s.modLive i (fun c => { c with packetsAccepted := bumped c.packetsAccepted })
  s.afterInsertion i l

/-- A packet placed by its distance (R10): behind, duplicate, in the window, or far ahead. -/
def State.place (s : State) (i : ScreenIx) (l : Letter) (b : Block) : State :=
  let x := s.slot i l
  let d := seqDistance b.seq x.next
  if 32768 ≤ d then s.modLive i (fun c => { c with late := bumped c.late })
  else if 64 ≤ d then s.resync i l b
  else if x.buffer.any (fun c => decide (c.seq = b.seq)) then
    s.modLive i (fun c => { c with late := bumped c.late, duplicate := bumped c.duplicate })
  else s.insert i l b

/-- A packet that belongs to slot l of screen i (R9, R10). -/
def State.arrive (s : State) (i : ScreenIx) (l : Letter) (b : Block) (source : Mac) : State :=
  match (s.slot i l).state with
  | .empty => s
  | .waiting => s.beginFill i l b source
  | .lost => s.beginFill i l b source
  | .filling => s.place i l b
  | .ready => s.place i l b
  | .playing => s.place i l b
  | .starved => s.place i l b

/-- All 16 binding slots. -/
def allSlots : List (ScreenIx × Letter) := (List.finRange 8).flatMap (fun i => [(i, .a), (i, .b)])

/-- The slot that holds a stream ID (R3). -/
def State.holder (s : State) (id : StreamId) : Option (ScreenIx × Letter) :=
  allSlots.find? (fun p => decide ((s.slot p.1 p.2).streamId = some id))

/-- An unmatched packet is offered to the seen list (R4). -/
def State.noteSeen (s : State) (id : StreamId) (source : Mac) (format : Format) : State :=
  let entry : SeenEntry := { streamId := id, source := source, format := format }
  if s.seen.any (fun e => decide (e.streamId = id)) then
    { s with seen := entry :: s.seen.filter (fun e => decide (e.streamId ≠ id)) }
  else
    let s := { s with seen := entry :: s.seen.take 7 }
    s.postAt .streamSeen none none (u32 id.toNat)

/-- The samples of a channel's section: three bytes each, two's complement, most significant first (section 11.4). -/
def samplesOf : List Byte → List Int
  | a :: b :: c :: rest => z24 a b c :: samplesOf rest
  | _ => []

/-- The channels a mask names below channel k. -/
def channelsBelow (mask : Byte) (k : Nat) : Nat := ((List.range k).filter (fun j => mask.getLsbD j)).length

/-- A well-formed audio packet's stream ID and block, by the layout of section 11.4 and the checks of R2; none for a
malformed one. -/
def packetOf (payload : List Byte) : Option (StreamId × Block) :=
  match payload with
  | i0 :: i1 :: i2 :: i3 :: q0 :: q1 :: p0 :: p1 :: p2 :: p3 :: f :: mask :: body =>
    let id := n32 i0 i1 i2 i3
    let position := n32 p0 p1 p2 p3
    if body.length ≠ 144 * maskCount mask ∨ mask = 0 ∨ id = 0 then none
    else
      match formatOf (f.toNat % 16) with
      | none => none
      | some format =>
        some (BitVec.ofNat 32 id,
          { seq := BitVec.ofNat 16 (n16 q0 q1),
            position := if position = Config.absentPosition then none else some position,
            format := format,
            mask := mask,
            channels := Vector.ofFn (fun k : Fin 8 =>
              if mask.getLsbD k.val then samplesOf ((body.drop (144 * channelsBelow mask k.val)).take 144) else []) })
  | _ => none

/-- The broadcast address. -/
def broadcast : Mac := BitVec.allOnes 48

/-- An Ethernet frame at the program port (R2, R3, R4). -/
def State.programFrame (s : State) (dest : Mac) (etherType : BitVec 16) (source : Mac) (payload : List Byte) : State :=
  if (dest = broadcast ∨ dest = Config.stationAddress) ∧ etherType = audioType then
    match packetOf payload with
    | none => s.modPartLive (fun c => { c with packetsMalformed := bumped c.packetsMalformed })
    | some (id, b) =>
      match s.holder id with
      | some (i, l) => s.arrive i l b source
      | none =>
        let s := s.modPartLive (fun c => { c with packetsUnmatched := bumped c.packetsUnmatched })
        if s.discovery then s.noteSeen id source b.format else s
  else s

/-- AUDIO_PACKET: an Ethernet frame arrives at the program port (R2). -/
def execAudioPacket (dest : Mac) (etherType : BitVec 16) (source : Mac) (payload : List Byte) (s : State) :
    Host.Outcome State Fault Refusal :=
  .next (s.programFrame dest etherType source payload)

/-! ### The LOST timeout (R23) -/

/-- The timeout of a slot is due: it is FILLING, READY or STARVED and 250 ms have passed since last accepted. -/
def State.lostDue (s : State) (i : ScreenIx) (l : Letter) : Bool :=
  let x := s.slot i l
  (match x.state with
    | .filling => true
    | .ready => true
    | .starved => true
    | _ => false) &&
  (match x.lastAccepted with
    | none => false
    | some t => elapsed s.time t 250)

/-- LOST_TIMEOUT: the slot enters LOST, its buffer emptied (R23). A timeout that is not due does not happen (log 3). -/
def execLostTimeout (i : ScreenIx) (l : Letter) (s : State) : Host.Outcome State Fault Refusal :=
  .next
    (if s.lostDue i l then
      (s.modSlot i l (fun x => { x with buffer := [], lastAccepted := none })).enterSlotState i l .lost
    else s)

/-! ### The take (section 1.5) -/

/-- A block of the last taken block's format and mask whose channels are those given (R20). -/
def Intake.concealedWith (k : Intake) (channel : List Int → List Int) : Taken :=
  match k.lastTaken with
  | none => { real := false, position := none, format := none, mask := 0, channels := Vector.replicate 8 [] }
  | some b =>
    { real := false, position := none, format := some b.format, mask := b.mask, channels := b.channels.map channel }

/-- The fade of the first concealed block: sample i becomes floor(x (47 - i) / 48) (R20). -/
def fade (samples : List Int) : List Int := samples.mapIdx (fun i x => x * (47 - (i : Int)) / 48)

/-- The concealed block of a take: a faded repeat after a real block under CONCEAL and FAILOVER, else zeros (R20). -/
def Intake.concealed (k : Intake) : Taken :=
  if k.followingReal && decide (k.policy ≠ .silence) then k.concealedWith fade
  else k.concealedWith (fun c => c.map (fun _ => 0))

/-- A take that conceals: following real is cleared and blocks concealed counted (R20). -/
def State.conceal (s : State) (i : ScreenIx) : State × Taken :=
  let t := (s.scr i).intake.concealed
  let s := s.modIntake i (fun k => { k with followingReal := false })
  (s.modLive i (fun c => { c with blocksConcealed := bumped c.blocksConcealed }), t)

/-- A real block's yield. -/
def Block.taken (b : Block) : Taken :=
  { real := true, position := b.position, format := some b.format, mask := b.mask, channels := b.channels }

/-- The oldest block b leaves slot l and is yielded; it becomes the last taken block, and the expected sequence is the
one after it (R19, R22). -/
def State.playOldest (s : State) (i : ScreenIx) (l : Letter) (b : Block) : State :=
  s.modIntake i (fun k =>
    let x := k.slot l
    { k.setSlot l { x with buffer := x.buffer.tail, expected := some (b.seq + 1) } with
      lastTaken := some b, followingReal := true })

/-- The staged selection is applied (R18): a PLAYING slot that is no longer named leaves PLAYING. -/
def State.applyStaged (s : State) (i : ScreenIx) : State :=
  let k := (s.scr i).intake
  if k.staged = k.selection then s
  else
    let s :=
      if (k.slot k.selection).state = .playing then
        let s := s.endHolding i k.selection
        if k.start ≤ (k.slot k.selection).fill then s.enterReady i k.selection
        else s.enterSlotState i k.selection .filling
      else s
    s.modIntake i (fun k => { k with selection := k.staged })

/-- The slot now named becomes PLAYING if it is READY (R18). -/
def State.promoteNamed (s : State) (i : ScreenIx) : State :=
  let l := (s.scr i).intake.selection
  if (s.slot i l).state = .ready then s.enterSlotState i l .playing else s

/-- Failover is possible at this take (R22). -/
def Intake.failoverDue (k : Intake) : Bool :=
  decide (k.policy = .failover) && decide (k.selection = .a) && decide (k.slotA.state = .starved) &&
    decide (k.slotB.state = .ready)

/-- The failover to slot B, whose oldest block is `b` (R22). The records: STREAM FAILOVER, then slot B's STREAM STATE. -/
def State.failover (s : State) (i : ScreenIx) (b : Block) : State × Taken :=
  let s := s.modIntake i (fun k => { k with selection := .b, staged := .b })
  let s := s.modLive i (fun c => { c with failovers := bumped c.failovers })
  let s := s.post .streamFailover i (u8 Letter.a.code ++ u8 Letter.b.code ++ positionField b.position)
  let s := s.enterSlotState i .b .playing
  (s.playOldest i .b b, b.taken)

/-- A named STARVED slot's expected sequence advances by 1; a block that falls due is removed unplayed and counted late
(R21). -/
def State.starvedAdvance (s : State) (i : ScreenIx) (l : Letter) : State :=
  let x := s.slot i l
  if x.state = .starved then
    match x.buffer with
    | b :: rest =>
      if b.seq = x.next then
        (s.modSlot i l (fun x => { x with expected := some (x.next + 1), buffer := rest })).modLive i
          (fun c => { c with late := bumped c.late })
      else s.modSlot i l (fun x => { x with expected := some (x.next + 1) })
    | [] => s.modSlot i l (fun x => { x with expected := some (x.next + 1) })
  else s

/-- The take has nothing to play from the named slot: failover where R22 allows it, else a concealed block (R21). -/
def State.supply (s : State) (i : ScreenIx) : State × Taken :=
  let k := (s.scr i).intake
  match k.failoverDue, k.slotB.buffer with
  | true, b :: _ => s.failover i b
  | _, _ => (s.starvedAdvance i k.selection).conceal i

/-- The take from a PLAYING slot (R19): its block at e, a gap, or an underrun. -/
def State.takePlaying (s : State) (i : ScreenIx) (l : Letter) : State × Taken :=
  let x := s.slot i l
  match x.buffer with
  | [] =>
    let s := s.modLive i (fun c => { c with underruns := bumped c.underruns })
    ((s.endHolding i l).enterSlotState i l .starved).supply i
  | b :: _ =>
    if b.seq = x.next then ((s.playOldest i l b).considerGo i l, b.taken)
    else
      let r := s.conceal i
      ((r.1.modSlot i l (fun x => { x with expected := some (x.next + 1) })).considerGo i l, r.2)

/-- The take of a boundary (R18 to R22). -/
def State.take (s : State) (i : ScreenIx) : State × Taken :=
  let s := (s.applyStaged i).promoteNamed i
  let l := (s.scr i).intake.selection
  if (s.slot i l).state = .playing then s.takePlaying i l else s.supply i

/-- Stages a selection, from SET_SOURCE or a SOURCE action (R17). -/
def State.stageSource (s : State) (i : ScreenIx) (l : Letter) : State :=
  s.modIntake i (fun k => { k with staged := l })

/-! ### Requests (R6, R7, R16, R17, R25) -/

/-- R6. -/
def bindRule (screen slot : Nat) (id : StreamId) (s : State) : State × List Byte :=
  match screenOf screen, letterOf slot with
  | some i, some l =>
    if id = 0 then (s, refuse .badArg)
    else if (s.slot i l).state ≠ .empty ∨ (s.holder id).isSome then (s, refuse .inUse)
    else
      let s := s.modSlot i l (fun x =>
        { x with streamId := some id, source := none, holding := false, lastAccepted := none, expected := none,
                 buffer := [] })
      let s := { s with seen := s.seen.filter (fun e => decide (e.streamId ≠ id)) }
      (s.enterSlotState i l .waiting, answer .ok [])
  | _, _ => (s, refuse .badArg)

/-- BIND (R6). -/
def execBind (q : Req) (screen slot : Nat) (id : StreamId) (s : State) : Host.Outcome State Fault Refusal :=
  .next (s.serve (.bind q screen slot id) q 0x01 (refuse .badArg) (bindRule screen slot id))

/-- R7. The record names the stream ID that is released (log 17). -/
def unbindRule (screen slot : Nat) (s : State) : State × List Byte :=
  match screenOf screen, letterOf slot with
  | some i, some l =>
    let x := s.slot i l
    if x.state = .empty then (s, answer .ok [])
    else
      let s := s.endHolding i l
      let s := s.modSlot i l (fun _ => Slot.reset)
      (s.postSlotState i l x.streamId x.state .empty, answer .ok [])
  | _, _ => (s, refuse .badArg)

/-- UNBIND (R7). -/
def execUnbind (q : Req) (screen slot : Nat) (s : State) : Host.Outcome State Fault Refusal :=
  .next (s.serve (.unbind q screen slot) q 0x02 (refuse .badArg) (unbindRule screen slot))

/-- One slot is brought into agreement with new settings (R16). A STARVED slot that becomes PLAYING is then treated as
the PLAYING slot (log 24). -/
def State.agree (s : State) (i : ScreenIx) (l : Letter) : State :=
  let k := (s.scr i).intake
  let x := s.slot i l
  let s :=
    match x.state with
    | .filling => if k.start ≤ x.fill then s.enterReady i l else s
    | .ready =>
      if x.fill < k.start then s.enterSlotState i l .filling else s.modSlot i l (Slot.slide k.start)
    | .starved =>
      if k.start ≤ x.fill then
        if k.selection = l then s.enterSlotState i l .playing else s.enterReady i l
      else s
    | _ => s
  let x := s.slot i l
  if x.state = .playing then
    if x.holding then
      if k.pacing then s.considerGo i l else s.endHolding i l
    else s.considerHold i l
  else s

/-- R16. Slot A is brought into agreement before slot B, so its record and its pace message come first: the manual gives no
order (DESIGN CHOICE, log 36). -/
def setIntakeRule (screen start low high policy pacing : Nat) (s : State) : State × List Byte :=
  match screenOf screen, policyOf policy, onOf pacing with
  | some i, some p, some on =>
    if 2 ≤ start ∧ start ≤ 32 ∧ 1 ≤ low ∧ low < start ∧ start < high ∧ high ≤ 63 then
      let s := s.modIntake i (fun k => { k with start := start, low := low, high := high, policy := p, pacing := on })
      ((s.agree i .a).agree i .b,
        answer .ok (u16 start ++ u16 low ++ u16 high ++ u8 p.code ++ flag on))
    else (s, refuse .badArg)
  | _, _, _ => (s, refuse .badArg)

/-- SET_INTAKE (R16). -/
def execSetIntake (q : Req) (screen start low high policy pacing : Nat) (s : State) : Host.Outcome State Fault Refusal :=
  .next (s.serve (.setIntake q screen start low high policy pacing) q 0x03 (refuse .badArg)
    (setIntakeRule screen start low high policy pacing))

/-- R17. -/
def setSourceRule (screen slot : Nat) (s : State) : State × List Byte :=
  match screenOf screen, letterOf slot with
  | some i, some l => (s.stageSource i l, answer .ok [])
  | _, _ => (s, refuse .badArg)

/-- SET_SOURCE (R17). -/
def execSetSource (q : Req) (screen slot : Nat) (s : State) : Host.Outcome State Fault Refusal :=
  .next (s.serve (.setSource q screen slot) q 0x04 (refuse .badArg) (setSourceRule screen slot))

/-- The seen list's entries as a reply carries them: stream ID, source address, format code (R25). -/
def SeenEntry.bytes (e : SeenEntry) : List Byte := u32 e.streamId.toNat ++ beBytes 6 e.source.toNat ++ u8 e.format.code

/-- R25: OFF 0, ON 1, KEEP 2. -/
def listSeenRule (discovery : Nat) (s : State) : State × List Byte :=
  let reply (s : State) : State × List Byte :=
    (s, answer .ok (flag s.discovery ++ listField (s.seen.map SeenEntry.bytes)))
  match discovery with
  | 0 => reply { s with discovery := false }
  | 1 => reply { s with discovery := true }
  | 2 => reply s
  | _ => (s, refuse .badArg)

/-- LIST_SEEN (R25). -/
def execListSeen (q : Req) (discovery : Nat) (s : State) : Host.Outcome State Fault Refusal :=
  .next (s.serve (.listSeen q discovery) q 0x05 (refuse .badArg) (listSeenRule discovery))

/-! ### SCREEN_RESET (R27) -/

/-- A slot's starting state: a bound slot keeps its stream ID and enters WAITING, an EMPTY one stays (R27). -/
def Slot.restart (x : Slot) : Slot :=
  match x.streamId with
  | none => Slot.reset
  | some id => { Slot.reset with state := .waiting, streamId := some id }

/-- The intake's starting state, after any PACE_GO (R27). -/
def Intake.restart (k : Intake) : Intake :=
  { k with slotA := k.slotA.restart, slotB := k.slotB.restart, selection := .a, staged := .a, lastTaken := none,
           followingReal := false }

end Sys2Proof.Machine
end

