-- ==== Sys2Proof/Machine/Decoding.lean ====
section
/-! DEFINITION. Surround decoding (chapter 2): layouts, the format in force, the route map, matrix decoding and steering,
and the requests SET_LAYOUT and SET_FORMAT. -/

namespace Sys2Proof.Machine

/-! ### Buses -/

def busL : Bus := 0
def busC : Bus := 1
def busR : Bus := 2
def busLFE : Bus := 3
def busLS : Bus := 4
def busRS : Bus := 5
def busLRS : Bus := 6
def busRRS : Bus := 7

/-- The samples of a programme channel; an absent channel is 48 zeros (R34). -/
def Taken.channel (t : Taken) (k : Fin 8) : List Int := if t.mask.getLsbD k.val then t.channels[k] else zeroBlock

/-- Adds two signals and saturates each sum (section 2.5). -/
def mixSum (a b : List Int) : List Int := List.zipWith (fun x y => saturate (x + y)) a b

/-- Half of a signal (section 2.5). -/
def halfOf (a : List Int) : List Int := a.map half

/-- The halved sum of two signals: floor((a + b)/2), the sum formed exactly (R35, R39). -/
def halfSum (a b : List Int) : List Int := List.zipWith (fun x y => half (x + y)) a b

/-- The halved difference: floor((a - b)/2) (R39). -/
def halfDifference (a b : List Int) : List Int := List.zipWith (fun x y => half (x - y)) a b

/-- The derived centre and surround of a MATRIX block (R39): Lt is channel 0, Rt channel 1. -/
def matrixCentre (t : Taken) : List Int := halfSum (t.channel 0) (t.channel 1)

def matrixSurround (t : Taken) : List Int := halfDifference (t.channel 0) (t.channel 1)

/-- What each bus is given before folding and before absent buses are silenced, in bus order (R35 to R37, R39). `sur` is
the delayed surround of MATRIX. The channels have the names of R34's table. DEDUCED: so a STEREO block under a forced
DISCRETE_8 gives bus C its channel 1 and bus R zeros, where a sentence of R34 speaks of L and R (log 45). -/
def ownContent (f : Format) (topology : Topology) (t : Taken) (sur : List Int) : Vector (List Int) 8 :=
  let ch := t.channel
  let z := zeroBlock
  match f, topology with
  | .mono, _ => #v[z, ch 0, z, z, z, z, z, z]
  | .stereo, _ => #v[ch 0, z, ch 1, z, z, z, z, z]
  | .matrix, _ => #v[ch 0, matrixCentre t, ch 1, z, sur, sur, sur, sur]
  | .discrete6, .side => #v[ch 0, ch 1, ch 2, ch 3, ch 4, ch 5, z, z]
  | .discrete6, .sideRear => #v[ch 0, ch 1, ch 2, ch 3, ch 4, ch 5, ch 4, ch 5]
  | .discrete8, .side => #v[ch 0, ch 1, ch 2, ch 3, halfSum (ch 4) (ch 6), halfSum (ch 5) (ch 7), z, z]
  | .discrete8, .sideRear => #v[ch 0, ch 1, ch 2, ch 3, ch 4, ch 5, ch 6, ch 7]

/-- The route map (section 2.5): each bus's content, the centre folded into the front pair when bus C is absent (R38),
zeros on every absent bus. STEREO has no centre content to fold. -/
def route (f : Format) (d : Decoder) (t : Taken) (sur : List Int) : Vector (List Int) 8 :=
  let own := ownContent f d.topology t sur
  Vector.ofFn (fun b : Fin 8 =>
    if d.present b then
      if (b = busL ∨ b = busR) ∧ f ≠ .stereo ∧ ¬ d.present busC then mixSum own[b] (halfOf own[busC]) else own[b]
    else zeroBlock)

/-! ### Steering (R41 to R43) -/

/-- The dominance of a MATRIX block, from the energies of C and the undelayed S (R41). -/
def blockDominance (t : Taken) : Int := dominance (energy (matrixCentre t)) (energy (matrixSurround t))

/-- The surround target (R42). -/
def surroundTarget (d : Int) : Int := if 18 < d then -(min 60 ((d - 18) / 2)) else 0

/-- The centre target (R42). -/
def centreTarget (d : Int) : Int := if d < -18 then -(min 60 ((-d - 18) / 2)) else 0

/-- A steering value moves toward its target: down by 4, up by 1 (R43). -/
def steer (value target : Int) : Int :=
  if target < value then max target (value - 4)
  else if value < target then min target (value + 1)
  else value

/-! ### The decoder's block -/

/-- The format in force of the next block (R31): the forced format, else the block's code, else unchanged. -/
def Decoder.nextFormat (d : Decoder) (t : Taken) : Option Format :=
  match d.forced with
  | some f => some f
  | none =>
    match t.format with
    | some f => some f
    | none => d.inForce

/-- A change of the format in force: steering to 0 and the delay line cleared (R33). -/
def Decoder.changeFormat (d : Decoder) (f : Option Format) : Decoder :=
  { d with inForce := f, centre := 0, surround := 0, line := List.replicate 41 zeroBlock }

/-- The work of a MATRIX block: the S block enters the delay line and the oldest entry leaves (R40), and both steering
values move (R41 to R43). -/
def Decoder.matrixBlock (d : Decoder) (t : Taken) : Decoder :=
  let dom := blockDominance t
  { d with line := (matrixSurround t :: d.line).take 41,
           centre := steer d.centre (centreTarget dom),
           surround := steer d.surround (surroundTarget dom) }

/-- The entry of the delay line that is as old as the surround delay (R40). -/
def Decoder.delayed (d : Decoder) : List Int := d.line[d.delay]?.getD zeroBlock

/-- Determines the format in force for the block and makes the change of R33, posting DECODE FORMAT: the previous format,
the new one, and whether it is forced. -/
def State.decodeFormat (s : State) (i : ScreenIx) (t : Taken) : State :=
  let d := (s.scr i).decoder
  let f := d.nextFormat t
  if f = d.inForce then s
  else
    (s.modDecoder i (fun d => d.changeFormat f)).post .decodeFormat i
      (u8 (inForceCode d.inForce) ++ u8 (inForceCode f) ++ flag d.forced.isSome)

/-- Decodes the block of a boundary: the state after it and the eight bus blocks (R31, R33, R40, R43, R44). -/
def State.decode (s : State) (i : ScreenIx) (t : Taken) : State × Vector (List Int) 8 :=
  let s := s.decodeFormat i t
  match (s.scr i).decoder.inForce with
  | none => (s, Vector.replicate 8 zeroBlock)
  | some .matrix =>
    let s := s.modDecoder i (fun d => d.matrixBlock t)
    (s, route .matrix (s.scr i).decoder t (s.scr i).decoder.delayed)
  | some f => (s, route f (s.scr i).decoder t zeroBlock)

/-- The steering term of a bus (R43, R47). -/
def steeringTerm (centre surround : Int) (b : Bus) : Int :=
  if b = busC then centre
  else if b = busLS ∨ b = busRS ∨ b = busLRS ∨ b = busRRS then surround
  else 0

/-! ### Requests -/

/-- The arguments of SET_LAYOUT are consistent (R28). -/
def layoutValid (mask : Byte) (topology : Topology) (delay : Nat) : Bool :=
  let has (b : Bus) : Bool := mask.getLsbD b.val
  has busL && has busR && decide (delay ≤ 40) &&
    match topology with
    | .side => !has busLRS && !has busRRS && decide (has busLS = has busRS)
    | .sideRear => has busLS && has busRS && has busLRS && has busRRS

/-- The chains after a layout change: a bus that becomes present begins with zero history, one that becomes absent is
discarded, the others run on (R29, R75). -/
def State.relayout (s : State) (i : ScreenIx) (mask : Byte) : Vector (List BandHistory) 8 :=
  let e := (s.scr i).equaliser
  let old := (s.scr i).decoder.mask
  Vector.ofFn (fun b : Fin 8 =>
    if mask.getLsbD b.val then
      if old.getLsbD b.val then e.chains[b]
      else List.replicate (s.contents e.active b).bands.length { x1 := 0, x2 := 0, y1 := 0, y2 := 0 }
    else [])

/-- The layout as a reply carries it. -/
def layoutFields (mask : Byte) (topology : Topology) (delay : Nat) : List Byte := [mask] ++ u8 topology.code ++ u16 delay

/-- R28 and R29. -/
def setLayoutRule (screen : Nat) (mask : Byte) (topology delay : Nat) (s : State) : State × List Byte :=
  match screenOf screen, topologyOf topology with
  | some i, some top =>
    if layoutValid mask top delay then
      let d := (s.scr i).decoder
      let e := (s.scr i).equaliser
      let ok := answer .ok (layoutFields mask top delay)
      if d.mask = mask ∧ d.topology = top ∧ d.delay = delay then (s, ok)
      else if e.switch ≠ .idle then (s, refuse .state)
      else
        let need := s.requirementOver e.active mask
        let held := s.requirement i e.active
        if need ≤ held + s.bandsFree then
          let chains := s.relayout i mask
          let s := s.modEqualiser i (fun e => { e with chains := chains })
          (s.modDecoder i (fun d => { d with mask := mask, topology := top, delay := delay }), ok)
        else (s, refuse .noBands)
    else (s, refuse .badArg)
  | _, _ => (s, refuse .badArg)

/-- SET_LAYOUT (R28, R29). -/
def execSetLayout (q : Req) (screen : Nat) (mask : Byte) (topology delay : Nat) (s : State) :
    Host.Outcome State Fault Refusal :=
  .next (s.serve (.setLayout q screen mask topology delay) q 0x06 (refuse .badArg)
    (setLayoutRule screen mask topology delay))

/-- Sets the forced format, from SET_FORMAT or a FORMAT action (R32). -/
def State.forceFormat (s : State) (i : ScreenIx) (f : Option Format) : State :=
  s.modDecoder i (fun d => { d with forced := f })

/-- R32. -/
def setFormatRule (screen format : Nat) (s : State) : State × List Byte :=
  match screenOf screen, forcedOf format with
  | some i, some f => (s.forceFormat i f, answer .ok [])
  | _, _ => (s, refuse .badArg)

/-- SET_FORMAT (R32). -/
def execSetFormat (q : Req) (screen format : Nat) (s : State) : Host.Outcome State Fault Refusal :=
  .next (s.serve (.setFormat q screen format) q 0x07 (refuse .badArg) (setFormatRule screen format))

/-- The decoder's starting state: layout and forced format are kept (R46). -/
def Decoder.restart (d : Decoder) : Decoder := d.changeFormat none

end Sys2Proof.Machine
end

