-- ==== Sys2Proof/Machine/GainStage.lean ====
section
/-! DEFINITION. The gain stage (chapter 3): the fader law, ramps, the total gain, sample scaling, and the requests
SET_FADER, SET_LIMIT, SET_TRIM and SET_MUTE. -/

namespace Sys2Proof.Machine

/-- The gain of a fader position, in gs (R49). -/
def faderGain (p : Nat) : Int :=
  if p = 0 then -480
  else if p < 35 then -70 - 9 * (35 - (p : Int))
  else 2 * ((p : Int) - 70)

/-- A ramped term is given a target and a ramp time (R51): a jump when the time is 0, else a rate from the current
value. -/
def Ramp.aim (r : Ramp) (target : Int) (time : Nat) : Ramp :=
  if time = 0 ∨ r.current = target then { current := target, target := target, rate := 0 }
  else { r with target := target, rate := rampRate r.current target time }

/-- One boundary's step of a ramped term (R51). -/
def Ramp.step (r : Ramp) : Ramp := { r with current := stepToward r.current r.target r.rate }

/-- One boundary's step of a term of fixed rate (R55, R56). -/
def Stepped.step (rate : Nat) (t : Stepped) : Stepped := { t with current := stepToward t.current t.target rate }

/-- Every ramped term of the screen steps (R51, R55, R56). -/
def Gain.step (g : Gain) : Gain :=
  { g with fader := g.fader.step, offsets := g.offsets.map Ramp.step, mutes := g.mutes.map (Stepped.step 24),
           switchTerm := g.switchTerm.step 60 }

/-- The fader is aimed at a position, cut to the limit (R50). -/
def Gain.setFader (g : Gain) (position time : Nat) : Gain :=
  let p := min position g.limit
  { g with faderPosition := p, fader := g.fader.aim (faderGain p) time }

/-- The limit is set; the target and the current value are pulled down if above it (R52). -/
def Gain.setLimit (g : Gain) (position : Nat) : Gain :=
  let cap := faderGain position
  let p := min g.faderPosition position
  { g with limit := position, faderPosition := p,
           fader := { g.fader with target := if position < g.faderPosition then cap else g.fader.target,
                                   current := min g.fader.current cap } }

/-- The trims of the buses named (R53). -/
def Gain.setTrims (g : Gain) (mask : Byte) (trim : Int) : Gain :=
  { g with trims := Vector.ofFn (fun b : Fin 8 => if mask.getLsbD b.val then clampInt (-72) 72 trim else g.trims[b]) }

/-- The mute targets of the buses named (R55). -/
def Gain.setMutes (g : Gain) (mask : Byte) (on : Bool) : Gain :=
  { g with mutes := Vector.ofFn (fun b : Fin 8 =>
      if mask.getLsbD b.val then { g.mutes[b] with target := if on then -480 else 0 } else g.mutes[b]) }

/-- The cue offset targets of the buses named (R54). -/
def Gain.setOffsets (g : Gain) (mask : Byte) (gs : Int) (time : Nat) : Gain :=
  { g with offsets := Vector.ofFn (fun b : Fin 8 =>
      if mask.getLsbD b.val then g.offsets[b].aim (clampInt (-120) 24 gs) time else g.offsets[b]) }

/-- What the equaliser hands the gain stage for a block (R73, R79). -/
structure Equalised where
  out : Vector (List Int) 8
  clips : Vector Bool 8
  offsets : Vector Int 8
  deriving DecidableEq, Repr

/-- The raw total of a bus: the sum of its eight terms in force (R47, R57). -/
def rawTotal (g : Gain) (guardValue : Int) (presetOffset steering : Int) (b : Bus) : Int :=
  g.fader.current + g.trims[b] + g.offsets[b].current + presetOffset + guardValue + steering + g.mutes[b].current +
    g.switchTerm.current

/-- The total gain: the raw total clamped to -480 to +72 (R57). -/
def totalGain (raw : Int) : Int := clampInt (-480) 72 raw

/-- A bus's block is silent (R58). -/
def silentBus (g : Gain) (d : Decoder) (total : Int) (b : Bus) : Bool :=
  !d.present b || decide (total = -480) || decide (g.fader.current = -480) || decide (g.mutes[b].current = -480) ||
    decide (g.switchTerm.current = -480)

/-- round(x × g / 2^20), before saturation (R60). -/
def scaled (g : Nat) (x : Int) : Int := roundDiv (x * g) (2 ^ 20)

/-- A bus's output block and clip flag (R58, R60, R61). -/
def gainBus (g : Gain) (d : Decoder) (guardValue centre surround : Int) (e : Equalised) (b : Bus) : List Int × Bool :=
  let t := totalGain (rawTotal g guardValue e.offsets[b] (steeringTerm centre surround b) b)
  if silentBus g d t b then (zeroBlock, false)
  else
    let y := e.out[b].map (scaled (multiplier t))
    (y.map saturate, e.clips[b] || y.any overflows)

/-- The gain stage's work at a boundary: the terms step, the eight buses are gained with the steering values left by the
boundary before, the lane is given the blocks, and a block with a clip is counted (R47, R51, R57 to R62). -/
def State.gainStage (s : State) (i : ScreenIx) (centre surround : Int) (e : Equalised) : State × Vector Bool 8 :=
  let s := s.modGain i Gain.step
  let c := s.scr i
  let bus (b : Fin 8) : List Int × Bool := gainBus c.gain c.decoder c.guard.value centre surround e b
  let s := s.setLane i (Vector.ofFn (fun b => (bus b).1))
  let clips := Vector.ofFn (fun b => (bus b).2)
  if (List.finRange 8).any (fun b => clips[b]) then
    (s.modLive i (fun c => { c with clipBlocks := bumped c.clipBlocks }), clips)
  else (s, clips)

/-! ### Requests -/

/-- R50. -/
def setFaderRule (screen position ramp : Nat) (s : State) : State × List Byte :=
  match screenOf screen with
  | some i =>
    if position ≤ 100 ∧ ramp ≤ 60000 then
      let s := s.modGain i (fun g => g.setFader position ramp)
      (s, answer .ok (u8 (s.scr i).gain.faderPosition))
    else (s, refuse .badArg)
  | none => (s, refuse .badArg)

/-- SET_FADER (R50). -/
def execSetFader (q : Req) (screen position ramp : Nat) (s : State) : Host.Outcome State Fault Refusal :=
  .next (s.serve (.setFader q screen position ramp) q 0x08 (refuse .badArg) (setFaderRule screen position ramp))

/-- R52. -/
def setLimitRule (screen position : Nat) (s : State) : State × List Byte :=
  match screenOf screen with
  | some i =>
    if position ≤ 100 then
      let s := s.modGain i (fun g => g.setLimit position)
      (s, answer .ok (u8 position ++ u8 (s.scr i).gain.faderPosition))
    else (s, refuse .badArg)
  | none => (s, refuse .badArg)

/-- SET_LIMIT (R52). -/
def execSetLimit (q : Req) (screen position : Nat) (s : State) : Host.Outcome State Fault Refusal :=
  .next (s.serve (.setLimit q screen position) q 0x09 (refuse .badArg) (setLimitRule screen position))

/-- R53. -/
def setTrimRule (screen : Nat) (mask : Byte) (trim : Int) (s : State) : State × List Byte :=
  match screenOf screen with
  | some i =>
    let s := s.modGain i (fun g => g.setTrims mask trim)
    (s, answer .ok (listField ((s.scr i).gain.trims.toList.map s16)))
  | none => (s, refuse .badArg)

/-- SET_TRIM (R53). -/
def execSetTrim (q : Req) (screen : Nat) (mask : Byte) (trim : Int) (s : State) : Host.Outcome State Fault Refusal :=
  .next (s.serve (.setTrim q screen mask trim) q 0x0A (refuse .badArg) (setTrimRule screen mask trim))

/-- R55. -/
def setMuteRule (screen : Nat) (mask : Byte) (on : Nat) (s : State) : State × List Byte :=
  match screenOf screen, onOf on with
  | some i, some on =>
    let s := s.modGain i (fun g => g.setMutes mask on)
    (s, answer .ok (listField ((s.scr i).gain.mutes.toList.map (fun m => s16 m.target))))
  | _, _ => (s, refuse .badArg)

/-- SET_MUTE (R55). -/
def execSetMute (q : Req) (screen : Nat) (mask : Byte) (on : Nat) (s : State) : Host.Outcome State Fault Refusal :=
  .next (s.serve (.setMute q screen mask on) q 0x0B (refuse .badArg) (setMuteRule screen mask on))

/-- The gain stage's starting state: trims are kept (R65). -/
def Gain.restart (g : Gain) : Gain := { Gain.reset with trims := g.trims }

end Sys2Proof.Machine
end

