-- ==== Sys2Proof/Machine/Equalise.lean ====
section
/-! DEFINITION. Room equalisation (chapter 4): the biquad arithmetic, chains, preset switching and the band pool's claims,
and the requests LOAD_PRESET, DROP_PRESET and SELECT_PRESET. -/

namespace Sys2Proof.Machine

/-! ### The biquad (R74) -/

/-- No history (R75). -/
def BandHistory.zero : BandHistory := { x1 := 0, x2 := 0, y1 := 0, y2 := 0 }

/-- acc = b0 x[n] + b1 x[n-1] + b2 x[n-2] - a1 y[n-1] - a2 y[n-2], formed exactly (R74). -/
def biquadAcc (c : Band) (h : BandHistory) (x : Int) : Int :=
  c.b0 * x + c.b1 * h.x1 + c.b2 * h.x2 - c.a1 * h.y1 - c.a2 * h.y2

/-- One sample through a band: the output, the history after it, and whether the output was saturated (R74). -/
def biquadSample (c : Band) (h : BandHistory) (x : Int) : Int × BandHistory × Bool :=
  let v := roundDiv (biquadAcc c h x) (2 ^ 22)
  let y := saturate v
  (y, { x1 := x, x2 := h.x1, y1 := y, y2 := h.y1 }, overflows v)

/-- A block through a band. -/
def runBand (c : Band) : BandHistory → List Int → List Int × BandHistory × Bool
  | h, [] => ([], h, false)
  | h, x :: xs =>
    let one := biquadSample c h x
    let rest := runBand c one.2.1 xs
    (one.1 :: rest.1, rest.2.1, one.2.2 || rest.2.2)

/-- A block through a chain, band by band in list order (R73): the output, the histories, and whether any band
saturated. A band that has no history yet starts at zero. -/
def runChain : List Band → List BandHistory → List Int → List Int × List BandHistory × Bool
  | [], _, xs => (xs, [], false)
  | c :: cs, hs, xs =>
    let one := runBand c (hs.head?.getD BandHistory.zero) xs
    let rest := runChain cs hs.tail one.1
    (rest.1, one.2.1 :: rest.2.1, one.2.2 || rest.2.2)

/-- The crossfade of two outputs at count k (R78). -/
def mixAt (k : Nat) (old new : Int) : Int := ((32 - (k : Int)) * old + (k : Int) * new) / 32

/-- One present bus at a boundary: through the active chain, and in a crossfade through the incoming chain too (R73,
R78). Answers the output, the clip mark and both chains' histories. -/
def State.equaliseBus (s : State) (i : ScreenIx) (b : Bus) (xs : List Int) :
    List Int × Bool × List BandHistory × List BandHistory :=
  let e := (s.scr i).equaliser
  if (s.scr i).decoder.present b then
    let old := runChain (s.contents e.active b).bands e.chains[b] xs
    match e.switch with
    | .crossfade =>
      let new := runChain (s.contents (e.incoming.getD none) b).bands e.inChains[b] xs
      (List.zipWith (mixAt e.count) old.1 new.1, old.2.2 || new.2.2, old.2.1, new.2.1)
    | _ => (old.1, old.2.2, old.2.1, e.inChains[b])
  else (zeroBlock, false, e.chains[b], e.inChains[b])

/-- The equaliser's work on the block of a boundary (R73, R78, R79). -/
def State.equalise (s : State) (i : ScreenIx) (buses : Vector (List Int) 8) : State × Equalised :=
  let s := s.modEqualiser i (fun e => if e.switch = .crossfade then { e with count := e.count + 1 } else e)
  let bus (b : Fin 8) := s.equaliseBus i b buses[b]
  (s.modEqualiser i (fun e =>
      { e with chains := Vector.ofFn (fun b => (bus b).2.2.1), inChains := Vector.ofFn (fun b => (bus b).2.2.2) }),
    { out := Vector.ofFn (fun b => (bus b).1), clips := Vector.ofFn (fun b => (bus b).2.1),
      offsets := Vector.ofFn (fun b => s.offsetInForce i b) })

/-! ### Starting a switch (R76, R77, R80, R82) -/

/-- Fresh chains of a target on screen i: zero history for every band of every present bus (R75). -/
def State.freshChains (s : State) (i : ScreenIx) (t : Target) : Vector (List BandHistory) 8 :=
  Vector.ofFn (fun b : Fin 8 =>
    if (s.scr i).decoder.present b then List.replicate (s.contents t b).bands.length BandHistory.zero else [])

def noChains : Vector (List BandHistory) 8 := Vector.replicate 8 []

/-- A crossfade starts: the incoming preset's requirement is held from now (R77, R71). -/
def State.startCrossfade (s : State) (i : ScreenIx) (t : Target) : State :=
  let fresh := s.freshChains i t
  s.modEqualiser i (fun e => { e with switch := .crossfade, incoming := some t, count := 0, inChains := fresh })

/-- The switch term is aimed: -480 at the start of a cut, 0 at its swap (R80, R81). -/
def State.aimSwitchTerm (s : State) (i : ScreenIx) (target : Int) : State :=
  s.modGain i (fun g => { g with switchTerm := { g.switchTerm with target := target } })

/-- A cut starts: the delta max(0, new - old) is reserved and the switch term set toward -480 (R80). -/
def State.startCut (s : State) (i : ScreenIx) (t : Target) : State :=
  let delta := s.requirement i t - s.requirement i (s.scr i).equaliser.active
  (s.modEqualiser i (fun e =>
    { e with switch := .cut, incoming := some t, phase := some .fadeOut, delta := delta })).aimSwitchTerm i (-480)

/-- How a selection was decided (R76). -/
inductive Decision where
  | unchanged
  | crossfade
  | cut
  | pending
  | noBands
  deriving DecidableEq, Repr

/-- The table of R76 for an IDLE screen, tested in its order. -/
def State.decideIdle (s : State) (i : ScreenIx) (t : Target) : Decision :=
  let old := s.requirement i (s.scr i).equaliser.active
  let new := s.requirement i t
  if t = (s.scr i).equaliser.active then .unchanged
  else if new ≤ s.bandsFree then .crossfade
  else if new ≤ s.bandsFree + old then .cut
  else .noBands

/-- Carries a decision out. -/
def State.carryOut (s : State) (i : ScreenIx) (t : Target) : Decision → State
  | .crossfade => s.startCrossfade i t
  | .cut => s.startCut i t
  | _ => s

/-- A selection during a switch goes to the pending slot; a target it displaces posts PRESET REPLACED (R82). -/
def State.makePending (s : State) (i : ScreenIx) (t : Target) : State :=
  let s' := s.modEqualiser i (fun e => { e with waiting := some t })
  match (s.scr i).equaliser.waiting with
  | none => s'
  | some old => s'.post .presetReplaced i (targetField old ++ targetField t)

/-- SELECT_PRESET or a PRESET action with a target that may be selected (R76, R82, R84). -/
def State.select (s : State) (i : ScreenIx) (t : Target) : State × Decision :=
  if (s.scr i).equaliser.switch = .idle then
    let d := s.decideIdle i t
    (s.carryOut i t d, d)
  else (s.makePending i t, .pending)

/-- Posts PRESET REFUSED: the target, its requirement and the pool's free count (R85). -/
def State.postRefused (s : State) (i : ScreenIx) (t : Target) : State :=
  s.post .presetRefused i (targetField t ++ u16 (s.requirement i t) ++ u16 s.bandsFree)

/-- Posts PRESET DONE: the method, the preset left, the preset now active, the bands held and the free count (R85).
The method is CROSSFADE 1 or CUT 2 (R200). -/
def State.postDone (s : State) (i : ScreenIx) (method : Nat) (left : Target) : State :=
  s.post .presetDone i
    (u8 method ++ targetField left ++ targetField (s.scr i).equaliser.active ++ u16 (s.bandsHeld i) ++ u16 s.bandsFree)

/-- At a completion a pending target is decided on the state the completion left (R83). -/
def State.startPending (s : State) (i : ScreenIx) : State :=
  match (s.scr i).equaliser.waiting with
  | none => s
  | some t =>
    let s := s.modEqualiser i (fun e => { e with waiting := none })
    match s.decideIdle i t with
    | .noBands => s.postRefused i t
    | d => s.carryOut i t d

/-! ### What a switch does at a boundary, after the block has been gained (R78, R81; log 12) -/

/-- The crossfade completes (R78). -/
def State.crossfadeDone (s : State) (i : ScreenIx) : State :=
  let left := (s.scr i).equaliser.active
  let s := s.modEqualiser i (fun e =>
    { e with active := e.incoming.getD none, incoming := none, count := 0, switch := .idle, chains := e.inChains,
             inChains := noChains })
  (s.postDone i 1 left).startPending i

/-- The swap of a cut (R81): the target becomes active with fresh chains, and the fade-in begins. -/
def State.swapCut (s : State) (i : ScreenIx) : State :=
  let fresh := s.freshChains i ((s.scr i).equaliser.incoming.getD none)
  (s.modEqualiser i (fun e =>
    { e with active := e.incoming.getD none, incoming := none, delta := 0, phase := some .fadeIn, chains := fresh,
             left := e.active })).aimSwitchTerm i 0

/-- The cut completes (R81). -/
def State.cutDone (s : State) (i : ScreenIx) : State :=
  let left := (s.scr i).equaliser.left
  let s := s.modEqualiser i (fun e => { e with switch := .idle, phase := none, left := none })
  (s.postDone i 2 left).startPending i

/-- The crossfade completes at this boundary: its 32nd block has been processed (R78). -/
def Screen.crossfadeEnds (c : Screen) : Bool :=
  decide (c.equaliser.switch = .crossfade) && decide (32 ≤ c.equaliser.count)

/-- The switch term has arrived at -480 in the fade-out of a cut (R81). -/
def Screen.cutSwaps (c : Screen) : Bool :=
  decide (c.equaliser.switch = .cut) && decide (c.equaliser.phase = some .fadeOut) &&
    decide (c.gain.switchTerm.current = -480)

/-- The switch term has returned to 0 in the fade-in of a cut (R81). -/
def Screen.cutEnds (c : Screen) : Bool :=
  decide (c.equaliser.switch = .cut) && decide (c.equaliser.phase = some .fadeIn) &&
    decide (c.gain.switchTerm.current = 0)

/-- What the switch in progress does once the block of the boundary has been gained. -/
def State.switchProgress (s : State) (i : ScreenIx) : State :=
  if (s.scr i).crossfadeEnds then s.crossfadeDone i
  else if (s.scr i).cutSwaps then s.swapCut i
  else if (s.scr i).cutEnds then s.cutDone i
  else s

/-! ### Requests -/

/-- A band passes the stability check (R68). -/
def stable (c : Band) : Bool := decide (c.a2.natAbs < 2 ^ 22) && decide ((c.a1.natAbs : Int) < 2 ^ 22 + c.a2)

/-- The index of the first unstable band of a list (R68). -/
def firstUnstable : List Band → Option Nat
  | [] => none
  | c :: cs => if stable c then (firstUnstable cs).map (· + 1) else some 0

/-- The bus and the index of the first unstable band of a request, buses in bus order (R68). -/
def firstUnstableBus : List (Bus × BusContents) → Option (Bus × Nat)
  | [] => none
  | (b, c) :: rest =>
    match firstUnstable c.bands with
    | some k => some (b, k)
    | none => firstUnstableBus rest

/-- The buses a mask names, in bus order. -/
def maskBuses (mask : Byte) : List Bus := (List.finRange 8).filter (fun b => mask.getLsbD b.val)

/-- The contents a bus takes from a LOAD_PRESET: those given for it, else those it had (ADD) or none (NEW) (R67). -/
def loadedBus (given : List (Bus × BusContents)) (before : BusContents) (b : Bus) : BusContents :=
  match given.find? (fun p => decide (p.1 = b)) with
  | some p => p.2
  | none => before

def BusContents.none : BusContents := { offset := 0, bands := [] }

/-- R67, its checks in order. Modes: NEW 0, ADD 1. -/
def loadPresetRule (slot mode : Nat) (mask : Byte) (buses : List BusContents) (s : State) : State × List Byte :=
  match presetOf slot with
  | none => (s, refuse .badArg)
  | some p =>
    let given := (maskBuses mask).zip buses
    if 1 < mode ∨ mask = 0 ∨ buses.length ≠ maskCount mask then (s, refuse .badArg)
    else if buses.any (fun c => decide (16 < c.bands.length) || decide (c.offset < -72) || decide (24 < c.offset)) then
      (s, refuse .badArg)
    else
      match firstUnstableBus given with
      | some (b, k) => (s, answer .badArg (u8 b.val ++ u8 k))
      | none =>
        if mode = 1 ∧ s.library[p] = none then (s, refuse .notFound)
        else if s.inUse p then (s, refuse .inUse)
        else
          let before (b : Bus) : BusContents := if mode = 1 then s.contents (some p) b else BusContents.none
          let preset : Preset := { buses := Vector.ofFn (fun b => loadedBus given (before b) b) }
          ({ s with library := s.library.set p (some preset) },
            answer .ok (u16 slot ++ listField (preset.buses.toList.map (fun c => u16 c.bands.length))))

/-- LOAD_PRESET (R67, R68). -/
def execLoadPreset (q : Req) (slot mode : Nat) (mask : Byte) (buses : List BusContents) (s : State) :
    Host.Outcome State Fault Refusal :=
  .next (s.serve (.loadPreset q slot mode mask buses) q 0x0C (refuse .badArg) (loadPresetRule slot mode mask buses))

/-- R69. -/
def dropPresetRule (slot : Nat) (s : State) : State × List Byte :=
  match presetOf slot with
  | none => (s, refuse .badArg)
  | some p =>
    if s.inUse p then (s, refuse .inUse)
    else ({ s with library := s.library.set p none }, answer .ok [])

/-- DROP_PRESET (R69). -/
def execDropPreset (q : Req) (slot : Nat) (s : State) : Host.Outcome State Fault Refusal :=
  .next (s.serve (.dropPreset q slot) q 0x0D (refuse .badArg) (dropPresetRule slot))

/-- A target names an EMPTY slot (R76, R160). -/
def State.targetEmpty (s : State) : Target → Bool
  | none => false
  | some p => s.library[p].isNone

/-- A decision's method byte: NONE 0, CROSSFADE 1, CUT 2, PENDING 3 (R200). -/
def Decision.code : Decision → Nat
  | .unchanged => 0
  | .crossfade => 1
  | .cut => 2
  | .pending => 3
  | .noBands => 0

/-- R76. -/
def selectPresetRule (screen preset : Nat) (s : State) : State × List Byte :=
  match screenOf screen, targetOf preset with
  | some i, some t =>
    if s.targetEmpty t then (s, refuse .notFound)
    else
      let r := s.select i t
      match r.2 with
      | .noBands => (s, refuse .noBands)
      | d => (r.1, answer .ok (u8 d.code ++ u16 r.1.bandsFree))
  | _, _ => (s, refuse .badArg)

/-- SELECT_PRESET (R76, R82). -/
def execSelectPreset (q : Req) (screen preset : Nat) (s : State) : Host.Outcome State Fault Refusal :=
  .next (s.serve (.selectPreset q screen preset) q 0x0E (refuse .badArg) (selectPresetRule screen preset))

end Sys2Proof.Machine
end

