-- ==== Sys2Proof/Machine/Metering.lean ====
section
/-! DEFINITION. Metering (chapter 5): block energies, intervals, windows, the published readings, and SET_METER. -/

namespace Sys2Proof.Machine

/-- Pushes a newest entry into a window of a capacity, the oldest leaving first when it is full (R91, R92, R95). -/
def pushWindow {α : Type} (capacity : Nat) (w : List α) (x : α) : List α := w.drop (w.length + 1 - capacity) ++ [x]

/-- The meters take the block of a boundary: energies into the accumulators, clip flags into the histories, and the
boundary count advances (R89, R90, R95). -/
def Meters.block (m : Meters) (lane : Vector (List Int) 8) (clips : Vector Bool 8) : Meters :=
  { m with accumulators := Vector.ofFn (fun b : Fin 8 => m.accumulators[b] + energy lane[b]),
           clipHistories := Vector.ofFn (fun b : Fin 8 => pushWindow 100 m.clipHistories[b] clips[b]),
           boundaryCount := m.boundaryCount + 1 }

/-- The screen-total interval energy: every bus but LFE (R91). -/
def Meters.totalEnergy (m : Meters) : Nat :=
  ((List.finRange 8).map (fun b => if b = busLFE then 0 else m.accumulators[b])).sum

/-- The windows after a close's pushes (R91, R92). -/
def Meters.push (m : Meters) : Meters :=
  { m with ring := pushWindow m.window m.ring m.totalEnergy,
           busWindows := Vector.ofFn (fun b : Fin 8 => pushWindow 100 m.busWindows[b] m.accumulators[b]) }

/-- The clip count of a bus: the clip blocks in its history (R95). -/
def clipCount (h : List Bool) : Nat := (h.filter (fun c => c)).length

/-- The readings computed over the windows (R93, R96). -/
def Meters.publish (m : Meters) : Meters :=
  { m with totalLevel := levelOf m.ring.sum m.ring.length,
           totalIntervals := m.ring.length,
           busLevels := Vector.ofFn (fun b : Fin 8 => levelOf m.busWindows[b].sum m.busWindows[b].length),
           clipCounts := Vector.ofFn (fun b : Fin 8 => clipCount m.clipHistories[b]) }

/-- The close of an interval (R90): push, publish, and the accumulators and the count return to 0. -/
def Meters.close (m : Meters) : Meters :=
  { m.push.publish with accumulators := Vector.replicate 8 0, boundaryCount := 0 }

/-- A level in SPL, with the calibration in force (R94). -/
def Meters.spl (m : Meters) (level : Int) : Int := level + m.calibration

/-- R97. -/
def setMeterRule (screen window : Nat) (calibration : Int) (s : State) : State × List Byte :=
  match screenOf screen with
  | some i =>
    if 10 ≤ window ∧ window ≤ 6000 then
      let cal := clampInt 600 1400 calibration
      let s := s.modMeters i (fun m =>
        { m with ring := if window = m.window then m.ring else [], window := window, calibration := cal })
      (s, answer .ok (u16 window ++ s16 cal))
    else (s, refuse .badArg)
  | none => (s, refuse .badArg)

/-- SET_METER (R97). -/
def execSetMeter (q : Req) (screen window : Nat) (calibration : Int) (s : State) : Host.Outcome State Fault Refusal :=
  .next (s.serve (.setMeter q screen window calibration) q 0x0F (refuse .badArg)
    (setMeterRule screen window calibration))

/-- The meters' starting state: the window length and the calibration are kept (R101). -/
def Meters.restart (m : Meters) : Meters := { Meters.reset with window := m.window, calibration := m.calibration }

end Sys2Proof.Machine
end

