-- ==== Sys2Proof/Machine/AlarmMonitor.lean ====
section
/-! DEFINITION. Level alarms and guard (chapter 6): the conditions, the instance state machine, records, the guard, and
the requests SET_ALARM, ACK_ALARM and SET_GUARD. -/

namespace Sys2Proof.Machine

/-! ### Conditions (R103 to R106) -/

/-- The class of a total SPL reading (R103). -/
inductive LevelClass where
  | above
  | band
  | below
  deriving DecidableEq, Repr

def levelClass (set : AlarmSettings) (spl : Int) : LevelClass :=
  if set.threshold < spl then .above
  else if set.threshold - set.hysteresis < spl then .band
  else .below

/-- The class of screen i's published total level (R103). -/
def Screen.totalClass (c : Screen) : LevelClass :=
  levelClass c.alarms.overSettings (c.meters.spl c.meters.totalLevel)

/-- OVER_LEVEL's condition: above, and in the band too once the alarm is up (R103). -/
def Screen.overCondition (c : Screen) : Bool :=
  match c.alarms.overLevel.state with
  | .raised => decide (c.totalClass ≠ .below)
  | .clearing => decide (c.totalClass ≠ .below)
  | _ => decide (c.totalClass = .above)

/-- CLIP's condition on bus b (R104). -/
def Screen.clipCondition (c : Screen) (b : Bus) : Bool :=
  decide (c.alarms.clipSettings.threshold ≤ (c.meters.clipCounts[b] : Int))

/-- The screen's playing slot. -/
def Screen.playing (c : Screen) : Slot := c.intake.slot c.intake.selection

/-- SILENCE's condition on bus b (R105). -/
def Screen.silenceCondition (c : Screen) (b : Bus) : Bool :=
  c.decoder.present b && decide (c.meters.spl c.meters.busLevels[b] < c.alarms.silenceSettings.threshold) &&
    decide (c.playing.state = .playing) && decide (c.clock.state = .running) && decide (c.gain.mutes[b].target = 0) &&
    decide (0 < c.gain.faderPosition)

/-- STREAM's condition (R106). -/
def Screen.streamCondition (c : Screen) : Bool :=
  decide (c.clock.state = .running) && decide (c.playing.state ≠ .playing)

def Screen.condition (c : Screen) : AlarmId → Bool
  | .overLevel => c.overCondition
  | .clip b => c.clipCondition b
  | .silence b => c.silenceCondition b
  | .stream => c.streamCondition

/-! ### The instance state machine (R107 to R112) -/

/-- The raise length in closes (R107). -/
def AlarmSettings.raiseLength (a : AlarmSettings) : Nat := a.raiseDwell / 10

/-- The clear length in closes (R107). -/
def AlarmSettings.clearLength (a : AlarmSettings) : Nat := a.clearDwell / 10

/-- What an instance posts at a close. -/
inductive AlarmPost where
  | raised
  | cleared
  | latched
  | remind (number : Nat)
  deriving DecidableEq, Repr

/-- An instance after a close, and what it posts. -/
structure AlarmMove where
  alarm : Alarm
  post : Option AlarmPost
  deriving DecidableEq, Repr

/-- A fresh raise (R108). That the dwell count becomes 0 with it is the model's reading (log 40). -/
def freshRaise : AlarmMove :=
  { alarm := { state := .raised, acknowledged := false, dwell := 0, remindCount := 0, reminders := 0 },
    post := some .raised }

/-- An IDLE instance, or a LATCHED one, whose condition is true (R109). -/
def beginRaise (set : AlarmSettings) (x : Alarm) : AlarmMove :=
  if set.raiseLength = 0 then freshRaise
  else { alarm := { x with state := .pending, dwell := 0 }, post := none }

/-- The clear dwell expires (R111). That the dwell count becomes 0 on the way to LATCHED too is the model's reading
(log 40). -/
def endRaise (set : AlarmSettings) (x : Alarm) : AlarmMove :=
  if set.latch && !x.acknowledged then
    { alarm := { Alarm.reset with state := .latched }, post := some .latched }
  else { alarm := Alarm.reset, post := some .cleared }

/-- A RAISED instance after its transitions counts toward its next reminder (R112). -/
def remindStep (set : AlarmSettings) (x : Alarm) : AlarmMove :=
  if x.acknowledged ∨ ¬ (set.remindLimit = 15 ∨ x.reminders < set.remindLimit) then { alarm := x, post := none }
  else if set.remindInterval * 100 ≤ x.remindCount + 1 then
    { alarm := { x with remindCount := 0, reminders := min 15 (x.reminders + 1) },
      post := some (.remind (x.reminders + 1)) }
  else { alarm := { x with remindCount := x.remindCount + 1 }, post := none }

/-- The transition table before R109, with R109 to R112. A CLEARING instance that returns to RAISED counts toward its
reminder at that very close, as R112 says, and posts REMIND when it falls due there, although R110 and the table say that
the return posts nothing: they speak of the return itself (DEDUCED, log 39). -/
def Alarm.move (set : AlarmSettings) (condition : Bool) (x : Alarm) : AlarmMove :=
  match x.state, condition with
  | .idle, false => { alarm := x, post := none }
  | .idle, true => beginRaise set x
  | .pending, false => { alarm := { x with state := .idle, dwell := 0 }, post := none }
  | .pending, true =>
    if set.raiseLength ≤ x.dwell + 1 then freshRaise else { alarm := { x with dwell := x.dwell + 1 }, post := none }
  | .raised, true => remindStep set x
  | .raised, false =>
    if set.clearLength = 0 then endRaise set x
    else { alarm := { x with state := .clearing, dwell := 0 }, post := none }
  | .clearing, true => remindStep set { x with state := .raised, dwell := 0 }
  | .clearing, false =>
    if set.clearLength ≤ x.dwell + 1 then endRaise set x else { alarm := { x with dwell := x.dwell + 1 }, post := none }
  | .latched, false => { alarm := x, post := none }
  | .latched, true => beginRaise set x

/-! ### Records (R113) -/

/-- The reading an ALARM record carries: the total SPL, the clip count, the bus level in SPL, or the playing slot's state
and letter. An SPL is formed from the published level with the calibration as it stands when the record is posted, for a
record of ACK_ALARM too (R94, R113; DESIGN CHOICE, log 38). -/
def Screen.reading (c : Screen) : AlarmId → List Byte
  | .overLevel => s16 (c.meters.spl c.meters.totalLevel)
  | .clip b => u16 c.meters.clipCounts[b]
  | .silence b => s16 (c.meters.spl c.meters.busLevels[b])
  | .stream => u8 c.alarms.streamState.code ++ u8 c.alarms.streamLetter.code

/-- The detail of an ALARM record: kind, bus (absent all ones), the state after the change, the acknowledged flag, the
reading, and for REMIND the reminder number. -/
def Screen.alarmDetail (c : Screen) (id : AlarmId) : List Byte :=
  u8 id.kind.code ++ u8 ((id.bus.map (fun b => b.val)).getD 0xFF) ++ u8 (c.alarms.get id).state.code ++
    flag (c.alarms.get id).acknowledged ++ c.reading id

/-- Posts what an instance posts at a close; a fresh raise is counted (R108). The reminder number of a REMIND record has two
bytes, as a count (DEDUCED, log 15). -/
def State.postAlarm (s : State) (i : ScreenIx) (id : AlarmId) : AlarmPost → State
  | .raised =>
    (s.post .alarmRaised i ((s.scr i).alarmDetail id)).modLive i (fun c => { c with alarmRaises := bumped c.alarmRaises })
  | .cleared => s.post .alarmCleared i ((s.scr i).alarmDetail id)
  | .latched => s.post .alarmLatched i ((s.scr i).alarmDetail id)
  | .remind n => s.post .alarmRemind i ((s.scr i).alarmDetail id ++ u16 n)

/-- How instance id moves at a close that sees the screen as it stands. -/
def Screen.alarmMove (c : Screen) (id : AlarmId) : AlarmMove :=
  (c.alarms.get id).move (c.alarms.settings id.kind) (c.condition id)

/-- One instance is evaluated (R102). -/
def State.evaluateAlarm (s : State) (i : ScreenIx) (id : AlarmId) : State :=
  let m := (s.scr i).alarmMove id
  let s := s.modAlarms i (fun a => a.put id m.alarm)
  match m.post with
  | none => s
  | some p => s.postAlarm i id p

/-- The monitor reads the playing slot for the STREAM records of this close (R113, log 21). -/
def State.readStream (s : State) (i : ScreenIx) : State :=
  s.modAlarms i (fun a =>
    { a with streamState := (s.scr i).playing.state, streamLetter := (s.scr i).intake.selection })

/-- The 18 instances in order (R102). -/
def State.evaluateAlarms (s : State) (i : ScreenIx) : State :=
  AlarmId.all.foldl (fun s id => s.evaluateAlarm i id) (s.readStream i)

/-! ### The guard (R120 to R125) -/

/-- The interval length in closes (R120). -/
def GuardBlock.intervalLength (g : GuardBlock) : Nat := g.interval / 10

/-- The release length in closes (R120). -/
def GuardBlock.releaseLength (g : GuardBlock) : Nat := g.release / 10

/-- The counts of an enabled guard at a close (R122). -/
def GuardBlock.count (g : GuardBlock) (k : LevelClass) : GuardBlock :=
  { g with stepTimer := if g.stepTimer < g.intervalLength then g.stepTimer + 1 else g.stepTimer,
           releaseCount := if k = .below then min g.releaseLength (g.releaseCount + 1) else 0 }

/-- A guard that has counted takes a reducing step (R122). -/
def GuardBlock.reduces (g : GuardBlock) (loud : AlarmState) (k : LevelClass) : Bool :=
  decide (loud = .raised) && decide (k = .above) && decide (g.stepTimer = g.intervalLength) && decide (g.floor < g.value)

/-- A guard that has counted takes a releasing step (R124). -/
def GuardBlock.releases (g : GuardBlock) : Bool :=
  decide (g.releaseCount = g.releaseLength) && decide (g.value < 0) && decide (g.stepTimer = g.intervalLength)

/-- A step down: by the step, or to the floor if that is nearer (R122). -/
def GuardBlock.stepDown (g : GuardBlock) : GuardBlock :=
  { g with value := max g.floor (g.value - g.step), stepTimer := 0, direction := .down }

/-- A step up: by the step, or to 0 if that is nearer (R124). -/
def GuardBlock.stepUp (g : GuardBlock) : GuardBlock :=
  { g with value := min 0 (g.value + g.step), stepTimer := 0, direction := .up }

/-- The GUARD record's detail: the value after the step and the total level in SPL (R125). -/
def Screen.guardDetail (c : Screen) : List Byte := s16 c.guard.value ++ s16 (c.meters.spl c.meters.totalLevel)

/-- A reducing step: posts GUARD DOWN while the direction is NONE or UP (R122, R125). -/
def State.guardDownStep (s : State) (i : ScreenIx) : State :=
  let before := (s.scr i).guard.direction
  let s := s.modGuard i GuardBlock.stepDown
  if before = .down then s else s.post .guardDown i (s.scr i).guardDetail

/-- A releasing step: posts GUARD UP while the direction is DOWN (R124, R125). -/
def State.guardUpStep (s : State) (i : ScreenIx) : State :=
  let before := (s.scr i).guard.direction
  let s := s.modGuard i GuardBlock.stepUp
  if before = .down then s.post .guardUp i (s.scr i).guardDetail else s

/-- The guard after this close's counting, as it decides its step (R122). -/
def Screen.countedGuard (c : Screen) : GuardBlock := c.guard.count c.totalClass

/-- The guard will reduce at this close (R122). -/
def Screen.guardReduces (c : Screen) : Bool :=
  c.guard.enabled && c.countedGuard.reduces c.alarms.overLevel.state c.totalClass

/-- The guard will release at this close (R124). -/
def Screen.guardReleases (c : Screen) : Bool := c.guard.enabled && !c.guardReduces && c.countedGuard.releases

/-- The guard's evaluation at a close, after the 18 instances (R102, R122, R124). -/
def State.evaluateGuard (s : State) (i : ScreenIx) : State :=
  let c := s.scr i
  if c.guard.enabled then
    let s := s.modGuard i (fun _ => c.countedGuard)
    if c.guardReduces then s.guardDownStep i
    else if c.guardReleases then s.guardUpStep i
    else s
  else s

/-! ### Requests -/

/-- The thresholds of a kind lie in their ranges (R115). -/
def thresholdsValid (k : AlarmKind) (threshold hysteresis : Int) : Bool :=
  match k with
  | .overLevel =>
    decide (0 ≤ threshold) && decide (threshold ≤ 1500) && decide (0 ≤ hysteresis) && decide (hysteresis ≤ 200)
  | .clip => decide (1 ≤ threshold) && decide (threshold ≤ 100)
  | .silence => decide (0 ≤ threshold) && decide (threshold ≤ 1500)
  | .stream => true

/-- Replaces a kind's settings and returns its instances to IDLE (R115, R116). -/
def Alarms.configure (a : Alarms) (k : AlarmKind) (set : AlarmSettings) : Alarms :=
  match k with
  | .overLevel => { a with overSettings := set, overLevel := Alarm.reset }
  | .clip => { a with clipSettings := set, clip := Vector.replicate 8 Alarm.reset }
  | .silence => { a with silenceSettings := set, silence := Vector.replicate 8 Alarm.reset }
  | .stream => { a with streamSettings := set, stream := Alarm.reset }

/-- A kind's settings as a reply carries them (R115). -/
def settingsFields (k : AlarmKind) (set : AlarmSettings) : List Byte :=
  alarmThresholdBytes k.code set.threshold set.hysteresis ++ u32 set.raiseDwell ++ u32 set.clearDwell ++
    flag set.latch ++ u32 set.remindInterval ++ u8 set.remindLimit

/-- R115 and R116. -/
def setAlarmRule (screen kind : Nat) (threshold hysteresis : Int) (raise clear latch interval count : Nat) (s : State) :
    State × List Byte :=
  match screenOf screen, alarmKindOf kind, onOf latch with
  | some i, some k, some on =>
    let set : AlarmSettings :=
      { threshold := if k = .stream then 0 else threshold, hysteresis := if k = .overLevel then hysteresis else 0,
        raiseDwell := roundUpTen raise, clearDwell := roundUpTen clear, latch := on, remindInterval := interval,
        remindLimit := count }
    if thresholdsValid k threshold hysteresis ∧ set.raiseDwell ≤ 600000 ∧ set.clearDwell ≤ 600000 ∧ 1 ≤ interval ∧
        interval ≤ 600 ∧ count ≤ 15 then
      (s.modAlarms i (fun a => a.configure k set), answer .ok (settingsFields k set))
    else (s, refuse .badArg)
  | _, _, _ => (s, refuse .badArg)

/-- SET_ALARM (R115, R116). -/
def execSetAlarm (q : Req) (screen kind : Nat) (threshold hysteresis : Int) (raise clear latch interval count : Nat)
    (s : State) : Host.Outcome State Fault Refusal :=
  .next (s.serve (.setAlarm q screen kind threshold hysteresis raise clear latch interval count) q 0x10 (refuse .badArg)
    (setAlarmRule screen kind threshold hysteresis raise clear latch interval count))

/-- The instance that a kind and a bus field name (R114). -/
def alarmIdOf (k : AlarmKind) (bus : Nat) : Option AlarmId :=
  match k with
  | .overLevel => some .overLevel
  | .clip => (busOf bus).map AlarmId.clip
  | .silence => (busOf bus).map AlarmId.silence
  | .stream => some .stream

/-- Acknowledges an instance (R114): the state, and the status of the reply. -/
def State.acknowledge (s : State) (i : ScreenIx) (id : AlarmId) : State × Status :=
  let x := (s.scr i).alarms.get id
  let ack : State × Status :=
    if x.acknowledged then (s, .ok)
    else
      let s := s.modAlarms i (fun a => a.put id { x with acknowledged := true })
      (s.post .alarmAcked i ((s.scr i).alarmDetail id), .ok)
  match x.state with
  | .idle => (s, .state)
  | .pending => (s, .state)
  | .raised => ack
  | .clearing => ack
  | .latched =>
    let s := s.modAlarms i (fun a => a.put id Alarm.reset)
    (s.post .alarmCleared i ((s.scr i).alarmDetail id), .ok)

/-- R114. The reply carries the instance's state after the request. -/
def ackAlarmRule (screen kind bus : Nat) (s : State) : State × List Byte :=
  match screenOf screen, alarmKindOf kind with
  | some i, some k =>
    match alarmIdOf k bus with
    | some id =>
      let r := s.acknowledge i id
      (r.1, answer r.2 (u8 ((r.1.scr i).alarms.get id).state.code))
    | none => (s, refuse .badArg)
  | _, _ => (s, refuse .badArg)

/-- ACK_ALARM (R114). -/
def execAckAlarm (q : Req) (screen kind bus : Nat) (s : State) : Host.Outcome State Fault Refusal :=
  .next (s.serve (.ackAlarm q screen kind bus) q 0x11 (refuse .badArg) (ackAlarmRule screen kind bus))

/-- The settings of a SET_GUARD take effect (R126). -/
def GuardBlock.configure (g : GuardBlock) (on : Bool) (step interval : Nat) (floor : Int) (release : Nat) : GuardBlock :=
  if on && g.enabled then
    { g with step := step, interval := interval, floor := floor, release := release,
             stepTimer := min g.stepTimer (interval / 10), releaseCount := min g.releaseCount (release / 10),
             value := max g.value floor }
  else
    { enabled := on, value := 0, step := step, interval := interval, floor := floor, release := release,
      stepTimer := interval / 10, releaseCount := 0, direction := .none }

/-- The guard's settings as a reply carries them (R126). -/
def GuardBlock.settingsFields (g : GuardBlock) : List Byte :=
  flag g.enabled ++ u8 g.step ++ u32 g.interval ++ s16 g.floor ++ u32 g.release

/-- R126. -/
def setGuardRule (screen enable step interval : Nat) (floor : Int) (release : Nat) (s : State) : State × List Byte :=
  match screenOf screen, onOf enable with
  | some i, some on =>
    let interval := roundUpTen interval
    let release := roundUpTen release
    if 1 ≤ step ∧ step ≤ 12 ∧ -60 ≤ floor ∧ floor ≤ 0 ∧ 100 ≤ interval ∧ interval ≤ 5000 ∧ 1000 ≤ release ∧
        release ≤ 60000 then
      let s := s.modGuard i (fun g => g.configure on step interval floor release)
      (s, answer .ok ((s.scr i).guard.settingsFields ++ s16 (s.scr i).guard.value))
    else (s, refuse .badArg)
  | _, _ => (s, refuse .badArg)

/-- SET_GUARD (R126). -/
def execSetGuard (q : Req) (screen enable step interval : Nat) (floor : Int) (release : Nat) (s : State) :
    Host.Outcome State Fault Refusal :=
  .next (s.serve (.setGuard q screen enable step interval floor release) q 0x12 (refuse .badArg)
    (setGuardRule screen enable step interval floor release))

/-- The alarm monitor's starting state: settings are kept (R119). -/
def Alarms.restart (a : Alarms) : Alarms :=
  { a with overLevel := Alarm.reset, clip := Vector.replicate 8 Alarm.reset,
           silence := Vector.replicate 8 Alarm.reset, stream := Alarm.reset }

/-- The guard's starting state: the enable setting and the other settings are kept (R127). -/
def GuardBlock.restart (g : GuardBlock) : GuardBlock :=
  { g with value := 0, stepTimer := g.intervalLength, releaseCount := 0, direction := .none }

end Sys2Proof.Machine
end

