-- ==== Sys2Proof/Machine/Lines.lean ====
section
/-! DEFINITION. Contact outputs (section 9.2): the operations on a CUE line, the pulse and the stop policy. -/

namespace Sys2Proof.Machine

/-- The operations on a CUE output, each on the level and the pulse as they stand (R172). -/
def Line.operate (now : PartTime) (op : LineOperation) (x : Line) : Line :=
  match op with
  | .set => { x with level := true, pulse := none }
  | .clear => { x with level := false, pulse := none }
  | .toggle => { x with level := if x.pulse.isSome then false else !x.level, pulse := none }
  | .pulse width => { x with level := true, pulse := some (now + BitVec.ofNat 32 width) }

def State.operateLine (s : State) (l : LineIx) (op : LineOperation) : State := s.modLine l (Line.operate s.time op)

/-- What a CUE output does when the clock of its screen enters STOPPED (R174). -/
def Line.stopFor (i : ScreenIx) (x : Line) : Line :=
  match x.config with
  | .output (.cue j policy) _ =>
    if j = i then
      match policy with
      | .retain => x
      | .forceOff => { x with level := false, pulse := none }
      | .forceOn => { x with level := true, pulse := none }
    else x
  | _ => x

/-- The entry of screen i's clock into STOPPED reaches the contact block (R174). -/
def State.applyStopPolicy (s : State) (i : ScreenIx) : State := { s with lines := s.lines.map (Line.stopFor i) }

/-- The pulse of a line is over: it is a CUE output and the pulse's end is reached (R172; log 3). -/
def State.pulseDue (s : State) (l : LineIx) : Bool :=
  (s.line l).cueScreen.isSome &&
    match (s.line l).pulse with
    | none => false
    | some t => reached s.time t

/-- PULSE_EXPIRY: the level becomes OFF and the pulse absent (R172). An expiry that is not due does not happen (log 3). -/
def execPulseExpiry (l : LineIx) (s : State) : Host.Outcome State Fault Refusal :=
  .next (if s.pulseDue l then s.modLine l (fun x => { x with level := false, pulse := none }) else s)

end Sys2Proof.Machine
end

