-- ==== Sys2Proof/Machine/Clocks.lean ====
section
/-! DEFINITION. Show clocks (chapter 7): the move at a boundary, the four commands, the capture pair, and the requests
CLOCK, SET_CLOCK, SET_TRIGGER and READ_CAPTURE. -/

namespace Sys2Proof.Machine

/-! ### The move at a boundary (R128 to R133) -/

/-- The end point (R128). -/
def Clock.endPoint (c : Clock) : Nat := if c.length = 0 then 4294967294 else c.length

/-- A position clamped to the length when the length is not 0 (R132, R134). -/
def Clock.clampPosition (c : Clock) (p : Nat) : Nat := if c.length = 0 then p else min p c.length

/-- How a move of the clock ended. -/
inductive ClockOutcome where
  | going
  | ended
  | wrapped
  | held
  deriving DecidableEq, Repr

/-- The clock after the move of a boundary: whether a HELD chasing clock resumed on the way, and how it ended. -/
structure ClockMove where
  clock : Clock
  resumed : Bool
  outcome : ClockOutcome
  deriving DecidableEq, Repr

/-- The movement handed to the cue engine (R129): from old to new, and whether a wrap follows (R131). -/
structure Movement where
  old : Nat
  new : Nat
  wrapped : Bool
  deriving DecidableEq, Repr

/-- The end test of a chasing clock, and of a free one that does not wrap: at the end point under ONCE, or with length 0,
the clock becomes STOPPED (R130, R132). -/
def Clock.endTest (c : Clock) (resumed : Bool) : ClockMove :=
  if c.position = c.endPoint ∧ (c.endMode = .once ∨ c.length = 0) then
    { clock := { c with state := .stopped }, resumed := resumed, outcome := .ended }
  else { clock := c, resumed := resumed, outcome := .going }

/-- The position advances by 1 unless the reload mark is set or the position is at the end point (R130, R133). -/
def Clock.advance (c : Clock) : Clock :=
  if c.mark = false ∧ c.position < c.endPoint then { c with position := c.position + 1 } else c

/-- A RUNNING clock in FREE mode (R130, R131). -/
def Clock.moveFree (c : Clock) : ClockMove :=
  let c := c.advance
  if c.position = c.endPoint ∧ c.endMode = .loop ∧ c.length ≠ 0 then
    { clock := c, resumed := false, outcome := .wrapped }
  else c.endTest false

/-- A RUNNING or HELD clock in CHASE mode that is given a position (R132). -/
def Clock.chase (c : Clock) (p : Nat) : ClockMove :=
  Clock.endTest { c with position := c.clampPosition p, state := .running, flywheelCount := 0 }
    (decide (c.state = .held))

/-- A RUNNING clock in CHASE mode that is given no position (R133). DEDUCED: with the flywheel count at its limit the clock is
HELD even at its end point, as after a START there with a limit of 0 (log 44). -/
def Clock.flywheel (c : Clock) : ClockMove :=
  if c.flywheelCount < c.flywheelLimit then
    Clock.endTest { c.advance with flywheelCount := c.flywheelCount + 1 } false
  else { clock := { c with state := .held }, resumed := false, outcome := .held }

/-- The move by state, mode and the position the taken block carries, before the evaluated position and the reload mark
are brought up to date (R129 to R133). -/
def Clock.moveRaw (c : Clock) (position : Option Nat) : ClockMove :=
  match c.state, c.mode, position with
  | .stopped, _, _ => { clock := c, resumed := false, outcome := .going }
  | .running, .free, _ => c.moveFree
  | .held, .free, _ => { clock := c, resumed := false, outcome := .going }
  | _, .chase, some p => c.chase p
  | .running, .chase, none => c.flywheel
  | .held, .chase, none => { clock := c, resumed := false, outcome := .going }

/-- The whole move of a boundary (R129): the clock after it and the movement handed on. A wrap hands the forward movement
to the length first, and the position and the evaluated position become 0 (R131). -/
def Clock.move (c : Clock) (position : Option Nat) : ClockMove × Movement :=
  let m := c.moveRaw position
  let reachedAt := m.clock.position
  if m.outcome = .wrapped then
    ({ m with clock := { m.clock with position := 0, evaluated := 0, mark := false } },
      { old := c.evaluated, new := reachedAt, wrapped := true })
  else
    ({ m with clock := { m.clock with evaluated := reachedAt, mark := false } },
      { old := c.evaluated, new := reachedAt, wrapped := false })

/-- The position a block carries, for the clock: only a real block's (R132, R133). -/
def Taken.clockPosition (t : Taken) : Option Nat := if t.real then t.position else none

/-! ### Records (R135) -/

/-- What caused a change of the clock (R135). -/
inductive ClockCause where
  | request
  | cue
  | contact (line : LineIx)
  | chase
  | clock
  deriving DecidableEq, Repr

/-- The cause and its line number, 0 except for CONTACT (R200). -/
def ClockCause.bytes : ClockCause → List Byte
  | .request => u8 0 ++ u8 0
  | .cue => u8 1 ++ u8 0
  | .contact l => u8 2 ++ u8 (LineIx.code l)
  | .chase => u8 3 ++ u8 0
  | .clock => u8 4 ++ u8 0

/-- Posts a CLOCK record: the states before and after, the cause, and what the sub-kind adds. The position after the
change is the record's show position (log 14). -/
def State.postClock (s : State) (i : ScreenIx) (what : EventType) (before after : ClockState) (cause : ClockCause)
    (extra : List Byte) : State :=
  s.post what i (u8 before.code ++ u8 after.code ++ cause.bytes ++ extra)

/-- The clock moves at a boundary, posting its records and handing an entry into STOPPED to the contact block (R129,
R130 to R133, R135, R174). Answers the movement for the cue engine. DESIGN CHOICE: the WRAP record carries the length last
in its detail, after the cause and its line byte (log 43). -/
def State.moveClock (s : State) (i : ScreenIx) (t : Taken) : State × Movement :=
  let r := (s.scr i).clock.move t.clockPosition
  let s := s.modClock i (fun _ => r.1.clock)
  let s := if r.1.resumed then s.postClock i .clockState .held .running .chase [] else s
  (match r.1.outcome with
    | .going => s
    | .ended => (s.postClock i .clockEnd .running .stopped .clock []).applyStopPolicy i
    | .held => s.postClock i .clockHeld .running .held .clock []
    | .wrapped => s.postClock i .clockWrap .running .running .clock (u32 (s.scr i).clock.length),
    r.2)

/-! ### Commands (R134) -/

/-- Changes the clock's state by a command, posting CLOCK STATE (R134, R135). -/
def State.setClockState (s : State) (i : ScreenIx) (new : ClockState) (cause : ClockCause) : State :=
  let before := (s.scr i).clock.state
  (s.modClock i (fun c => { c with state := new })).postClock i .clockState before new cause []

/-- Carries a command out when it is taken (R134). -/
def State.clockCommand (s : State) (i : ScreenIx) (command : ClockCommand) (cause : ClockCause) : State :=
  let c := (s.scr i).clock
  match command with
  | .start =>
    if c.state = .running then s
    else (s.modClock i (fun c => { c with flywheelCount := 0 })).setClockState i .running cause
  | .stop => if c.state = .stopped then s else (s.setClockState i .stopped cause).applyStopPolicy i
  | .hold => if c.state = .running then s.setClockState i .held cause else s
  | .reload p =>
    let p := c.clampPosition p
    if p = c.position then s
    else
      (s.modClock i (fun c => { c with position := p, mark := true })).postClock i .clockReload c.state c.state cause
        (u32 c.position)

/-- An edge captures the clock's position (R140). -/
def State.capture (s : State) (i : ScreenIx) : State :=
  s.modClock i (fun c => { c with capturePrevious := c.captureCurrent, captureCurrent := some c.position })

/-! ### Requests -/

/-- R136. -/
def clockRule (screen command position : Nat) (s : State) : State × List Byte :=
  match screenOf screen, clockCommandOf command position with
  | some i, some c =>
    let s := s.clockCommand i c .request
    (s, answer .ok (u8 (s.scr i).clock.state.code ++ u32 (s.scr i).clock.position))
  | _, _ => (s, refuse .badArg)

/-- CLOCK (R136). -/
def execClock (q : Req) (screen command position : Nat) (s : State) : Host.Outcome State Fault Refusal :=
  .next (s.serve (.clock q screen command position) q 0x14 (refuse .badArg) (clockRule screen command position))

/-- The settings of SET_CLOCK take effect (R137). -/
def Clock.configure (c : Clock) (mode : ClockMode) (length : Nat) (endMode : EndMode) (pass flywheel : Nat) : Clock :=
  let c := { c with mode := mode, length := length, endMode := endMode, passWindow := pass, flywheelLimit := flywheel,
                    flywheelCount := min c.flywheelCount flywheel }
  if length ≠ 0 ∧ length < c.position then { c with position := length, mark := true } else c

/-- R137. -/
def setClockRule (screen mode length endMode pass flywheel : Nat) (s : State) : State × List Byte :=
  match screenOf screen, clockModeOf mode, endModeOf endMode with
  | some i, some m, some e =>
    if length < Config.absentPosition ∧ pass ≤ 2000 ∧ flywheel ≤ 10000 then
      let s := s.modClock i (fun c => c.configure m length e pass flywheel)
      (s, answer .ok (u8 m.code ++ u32 length ++ u8 e.code ++ u32 pass ++ u32 flywheel ++
        u8 (s.scr i).clock.state.code ++ u32 (s.scr i).clock.position))
    else (s, refuse .badArg)
  | _, _, _ => (s, refuse .badArg)

/-- SET_CLOCK (R137). -/
def execSetClock (q : Req) (screen mode length endMode pass flywheel : Nat) (s : State) :
    Host.Outcome State Fault Refusal :=
  .next (s.serve (.setClock q screen mode length endMode pass flywheel) q 0x13 (refuse .badArg)
    (setClockRule screen mode length endMode pass flywheel))

/-- R138. Entries: START 0, STOP 1, RELOAD 2. -/
def setTriggerRule (screen entry line edge position : Nat) (s : State) : State × List Byte :=
  match screenOf screen, lineOrNoneOf line, edgeOf edge with
  | some i, some l, some e =>
    let t : Trigger := { line := l, edge := e }
    let fields := u8 entry ++ lineField l ++ u8 e.code
    match entry with
    | 0 => (s.modClock i (fun c => { c with startTrigger := t }), answer .ok fields)
    | 1 => (s.modClock i (fun c => { c with stopTrigger := t }), answer .ok fields)
    | 2 =>
      if position < Config.absentPosition then
        (s.modClock i (fun c => { c with reloadTrigger := t, reloadPosition := position }),
          answer .ok (fields ++ u32 position))
      else (s, refuse .badArg)
    | _ => (s, refuse .badArg)
  | _, _, _ => (s, refuse .badArg)

/-- SET_TRIGGER (R138). -/
def execSetTrigger (q : Req) (screen entry line edge position : Nat) (s : State) : Host.Outcome State Fault Refusal :=
  .next (s.serve (.setTrigger q screen entry line edge position) q 0x15 (refuse .badArg)
    (setTriggerRule screen entry line edge position))

/-- R140. -/
def readCaptureRule (screen : Nat) (s : State) : State × List Byte :=
  match screenOf screen with
  | some i =>
    (s, answer .ok (positionField (s.scr i).clock.captureCurrent ++ positionField (s.scr i).clock.capturePrevious))
  | none => (s, refuse .badArg)

/-- READ_CAPTURE (R140). -/
def execReadCapture (q : Req) (screen : Nat) (s : State) : Host.Outcome State Fault Refusal :=
  .next (s.serve (.readCapture q screen) q 0x16 (refuse .badArg) (readCaptureRule screen))

/-- The clock's starting state: STOPPED at 0, settings and trigger table kept (R143). -/
def Clock.restart (c : Clock) : Clock :=
  { c with state := .stopped, position := 0, evaluated := 0, mark := false, flywheelCount := 0, captureCurrent := none,
           capturePrevious := none }

end Sys2Proof.Machine
end

