-- ==== Sys2Proof/Machine/Cues.lean ====
section
/-! DEFINITION. Cue lists and actions (chapter 8): the checks of LOAD_CUE and FIRE_ACTIONS, the actions, the evaluation of
a movement, the immediate slot, and the requests LOAD_CUE, DROP_CUE, CLEAR_CUES, FIRE and FIRE_ACTIONS. -/

namespace Sys2Proof.Machine

/-! ### The checks at load (R144, R145, R147) -/

/-- A cue number: 1 to 9,999 (R144). -/
def cueNumberValid (n : Nat) : Bool := decide (1 ≤ n) && decide (n ≤ 9999)

/-- The ranges of an action's fields (R147, check 1 of R145); none for an action out of range. -/
def actionOf : RawAction → Option CueAction
  | .fader position ramp => if position ≤ 100 ∧ ramp ≤ 60000 then some (.fader position ramp) else none
  | .offset mask gs ramp => if mask ≠ 0 ∧ ramp ≤ 60000 then some (.offset mask gs ramp) else none
  | .mute mask on => if mask ≠ 0 then (onOf on).map (.mute mask) else none
  | .preset slot => (targetOf slot).map .preset
  | .format code => (forcedOf code).map .format
  | .source slot => (letterOf slot).map .source
  | .lineSet line => (lineOf line).map .lineSet
  | .lineClear line => (lineOf line).map .lineClear
  | .lineToggle line => (lineOf line).map .lineToggle
  | .linePulse line width =>
    if 10 ≤ width ∧ width ≤ 5000 then (lineOf line).map (fun l => .linePulse l width) else none
  | .clock command position => (clockCommandOf command position).map .clock
  | .mark number => if number ≤ 65535 then some (.mark number) else none
  | .unknown _ => none

/-- The line an action names. -/
def CueAction.line : CueAction → Option LineIx
  | .lineSet l => some l
  | .lineClear l => some l
  | .lineToggle l => some l
  | .linePulse l _ => some l
  | _ => none

/-- The two faults an action can have, and that of a cue reference that is not found (R160). -/
inductive CueFault where
  | emptyPreset
  | notCueLine
  | notFound
  deriving DecidableEq, Repr

/-- R200: numbered in the order of R160. -/
def CueFault.code : CueFault → Nat
  | .emptyPreset => 0
  | .notCueLine => 1
  | .notFound => 2

/-- What is wrong now with an action's target on screen i: a PRESET naming an EMPTY slot, a LINE action naming a line that
is no CUE output of the screen (R145 check 2, R160). -/
def State.actionFault (s : State) (i : ScreenIx) (a : CueAction) : Option CueFault :=
  match a with
  | .preset t => if s.targetEmpty t then some .emptyPreset else none
  | a =>
    match a.line with
    | some l => if (s.line l).cueScreen = some i then none else some .notCueLine
    | none => none

/-- The place, 1 for the first, of the first item for which p holds. -/
def firstIndex {α : Type} (p : α → Bool) : List α → Option Nat
  | [] => none
  | x :: xs => if p x then some 1 else (firstIndex p xs).map (· + 1)

/-- The actions of a LOAD_CUE or FIRE_ACTIONS that pass both checks of R145, or the index its refusal carries: 0 for
their number, else the first action that fails check 1, else the first that fails check 2. -/
def State.checkActions (s : State) (i : ScreenIx) (raw : List RawAction) : Except Nat (List CueAction) :=
  if raw.length = 0 ∨ 4 < raw.length then .error 0
  else
    match firstIndex (fun a => (actionOf a).isNone) raw with
    | some k => .error k
    | none =>
      let actions := raw.filterMap actionOf
      match firstIndex (fun a => (s.actionFault i a).isSome) actions with
      | some k => .error k
      | none => .ok actions

/-- A condition in the ranges of R144. -/
def conditionOf : RawCondition → Option (Option Condition)
  | .absent => some none
  | .lineLevel line level =>
    match lineOf line, onOf level with
    | some l, some on => some (some (.lineLevel l on))
    | _, _ => none
  | .format code => (formatOf code).map (fun f => some (.format f))
  | .playing slot => (letterOf slot).map (fun l => some (.playing l))
  | .unknown _ => none

/-! ### The list (R144, R146) -/

/-- Entry a stands before entry b: by time, then by number (R144). -/
def CueEntry.before (a b : CueEntry) : Bool :=
  decide (a.time < b.time) || (decide (a.time = b.time) && decide (a.number < b.number))

/-- Puts an entry at its place (R144, R146). -/
def insertCue (e : CueEntry) : List CueEntry → List CueEntry
  | [] => [e]
  | c :: rest => if e.before c then e :: c :: rest else c :: insertCue e rest

/-- Removes the entry of a number. -/
def removeCue (number : Nat) (l : List CueEntry) : List CueEntry := l.filter (fun e => decide (e.number ≠ number))

/-- The entry of a number takes a state. -/
def State.setCueState (s : State) (i : ScreenIx) (number : Nat) (state : CueState) : State :=
  s.modCues i (List.map (fun e => if e.number = number then { e with state := state } else e))

/-! ### Records (R165) -/

/-- Where a cue is performed from: the list, or the immediate slot with the source of its content. -/
inductive CueSource where
  | list
  | immediate (origin : FireSource)
  deriving DecidableEq, Repr

/-- The source byte and the line number, 0 except for a slot filled from a contact (R200). -/
def CueSource.bytes : CueSource → List Byte
  | .list => u8 0 ++ u8 0
  | .immediate .request => u8 1 ++ u8 0
  | .immediate (.contact l) => u8 1 ++ u8 (LineIx.code l)

/-- What every CUE record of a performance carries: the source, the cue number and the time, both absent for an action
set (R165). -/
structure CueContext where
  source : CueSource
  number : Option Nat
  time : Option Nat
  deriving DecidableEq, Repr

def CueContext.bytes (x : CueContext) : List Byte := x.source.bytes ++ u16 (x.number.getD 0xFFFF) ++ positionField x.time

/-- Posts a CUE record of screen i (R165). -/
def State.postCue (s : State) (i : ScreenIx) (what : EventType) (x : CueContext) (extra : List Byte) : State :=
  s.post what i (x.bytes ++ extra)

/-! ### Actions (R155 to R160) -/

/-- An action of class STATE; the others are of class EVENT (R147). -/
def CueAction.isState : CueAction → Bool
  | .lineToggle _ => false
  | .linePulse _ _ => false
  | .clock _ => false
  | .mark _ => false
  | _ => true

/-- What an action asks of the block that owns its target, its target being valid (R155 to R159). A passed cue's ramp
times are taken as 0 (R151). -/
def State.applyAction (s : State) (i : ScreenIx) (x : CueContext) (jump : Bool) (a : CueAction) : State :=
  let time (ramp : Nat) : Nat := if jump then 0 else ramp
  match a with
  | .fader position ramp => s.modGain i (fun g => g.setFader position (time ramp))
  | .offset mask gs ramp => s.modGain i (fun g => g.setOffsets mask gs (time ramp))
  | .mute mask on => s.modGain i (fun g => g.setMutes mask on)
  | .preset t =>
    let r := s.select i t
    if r.2 = .noBands then s.postRefused i t else r.1
  | .format f => s.forceFormat i f
  | .source l => s.stageSource i l
  | .lineSet l => s.operateLine l .set
  | .lineClear l => s.operateLine l .clear
  | .lineToggle l => s.operateLine l .toggle
  | .linePulse l width => s.operateLine l (.pulse width)
  | .clock c => s.clockCommand i c .cue
  | .mark n => s.postCue i .cueMark x (u16 n)

/-- Performs the action of an index, or skips it with CUE FAULT (R160), whose index has one byte (log 15). Answers whether it
was applied. -/
def State.performAction (s : State) (i : ScreenIx) (x : CueContext) (jump : Bool) (index : Nat) (a : CueAction) :
    State × Bool :=
  match s.actionFault i a with
  | some f => (s.postCue i .cueFault x (u8 index ++ u8 a.kindCode ++ u8 f.code), false)
  | none => (s.applyAction i x jump a, true)

/-- Performs all of a fired cue's actions in list order, the first having the index given (R150). -/
def State.performAll (s : State) (i : ScreenIx) (x : CueContext) : Nat → List CueAction → State
  | _, [] => s
  | k, a :: rest => State.performAll (s.performAction i x false k a).1 i x (k + 1) rest

/-- Applies the STATE actions of a passed cue with ramp times 0, dropping the others; answers how many were applied
(R151). -/
def State.applyPassed (s : State) (i : ScreenIx) (x : CueContext) : Nat → List CueAction → State × Nat
  | _, [] => (s, 0)
  | k, a :: rest =>
    if a.isState then
      let one := s.performAction i x true k a
      let r := State.applyPassed one.1 i x (k + 1) rest
      (r.1, if one.2 then r.2 + 1 else r.2)
    else State.applyPassed s i x (k + 1) rest

/-- Fires: the FIRED record and its count, then the actions in order (R150). The number of actions in the record has 2 bytes,
a count (DEDUCED, log 15). -/
def State.fireWith (s : State) (i : ScreenIx) (x : CueContext) (actions : List CueAction) : State :=
  let s := s.postCue i .cueFired x (u16 actions.length)
  let s := s.modLive i (fun c => { c with cuesFired := bumped c.cuesFired })
  s.performAll i x 1 actions

/-! ### Conditions (R152) -/

/-- A condition's kind as it is sent (R200). -/
def Condition.kindCode : Condition → Nat
  | .lineLevel _ _ => 1
  | .format _ => 2
  | .playing _ => 3

/-- The value a condition finds now. -/
def State.found (s : State) (i : ScreenIx) : Condition → Nat
  | .lineLevel l _ => boolCode (s.lineLevel l)
  | .format _ => inForceCode (s.scr i).decoder.inForce
  | .playing _ => (s.scr i).intake.selection.code

/-- A condition is true now (R152). -/
def State.holds (s : State) (i : ScreenIx) : Condition → Bool
  | .lineLevel l on => decide (s.lineLevel l = on)
  | .format f => decide ((s.scr i).decoder.inForce = some f)
  | .playing l => decide ((s.scr i).intake.selection = l)

/-- The condition of an entry that is false now (R152); an absent one counts as true. -/
def State.failing (s : State) (i : ScreenIx) (e : CueEntry) : Option Condition :=
  e.condition.filter (fun c => !s.holds i c)

/-- Skips an entry for its false condition (R152). -/
def State.skipCue (s : State) (i : ScreenIx) (x : CueContext) (e : CueEntry) (c : Condition) : State :=
  (s.postCue i .cueSkipped x (u8 c.kindCode ++ u8 (s.found i c))).setCueState i e.number .skipped

/-- Fires an entry, from the list or from the slot (R150). -/
def State.fireCue (s : State) (i : ScreenIx) (x : CueContext) (e : CueEntry) : State :=
  (s.fireWith i x e.actions).setCueState i e.number .fired

/-- Passes an entry: its records, then PASSED with the number of actions applied (R151), which has 2 bytes, a count (DEDUCED,
log 15). -/
def State.passCue (s : State) (i : ScreenIx) (x : CueContext) (e : CueEntry) : State :=
  let r := s.applyPassed i x 1 e.actions
  let s := r.1.postCue i .cuePassed x (u16 r.2)
  (s.modLive i (fun c => { c with cuesPassed := bumped c.cuesPassed })).setCueState i e.number .passed

/-! ### Evaluation (R149, R153) -/

/-- An entry that a forward movement reaches (R149). -/
def CueEntry.reachedBy (e : CueEntry) (m : Movement) : Bool :=
  decide (e.state = .armed) && decide (m.old < e.time) && decide (e.time ≤ m.new)

def CueEntry.context (e : CueEntry) (source : CueSource) : CueContext :=
  { source := source, number := some e.number, time := some e.time }

/-- One reached entry: skipped, fired, or passed when its time is at or below new less the pass window (R149, R152). -/
def State.reachCue (s : State) (i : ScreenIx) (window new : Nat) (e : CueEntry) : State :=
  let x := e.context .list
  match s.failing i e with
  | some c => s.skipCue i x e c
  | none => if e.time + window ≤ new then s.passCue i x e else s.fireCue i x e

/-- Entries that p holds of are armed again, whatever their state (R153). -/
def State.rearm (s : State) (i : ScreenIx) (p : CueEntry → Bool) : State :=
  s.modCues i (List.map (fun e => if p e then { e with state := .armed } else e))

/-- The evaluation of a movement (R149, R153): the walk over the reached entries in list order, the re-arm of a backward
movement, and the re-arm of every entry on a wrap. The list and the pass window do not change during a walk, and an
entry's state is changed by its own turn only, so the entries reached are those of the beginning. -/
def State.evaluateCues (s : State) (i : ScreenIx) (m : Movement) : State :=
  let s :=
    if m.old < m.new then
      ((s.scr i).cues.filter (fun e => e.reachedBy m)).foldl
        (fun t e => t.reachCue i (s.scr i).clock.passWindow m.new e) s
    else if m.new < m.old then s.rearm i (fun e => decide (m.new < e.time))
    else s
  if m.wrapped then s.rearm i (fun _ => true) else s

/-! ### The immediate slot (R162, R163) -/

/-- What the slot's content does (R162). The CUE FAULT of a cue reference that is not found carries index 0, and neither a time
nor an action kind: both are all ones (DESIGN CHOICE, log 41). -/
def State.performContent (s : State) (i : ScreenIx) : Immediate → State
  | .empty => s
  | .actions actions source => s.fireWith i { source := .immediate source, number := none, time := none } actions
  | .cue number source =>
    match s.findCue i number with
    | none =>
      s.postCue i .cueFault { source := .immediate source, number := some number, time := none }
        (u8 0 ++ u8 0xFF ++ u8 CueFault.notFound.code)
    | some e =>
      let x := e.context (.immediate source)
      match s.failing i e with
      | some c => s.skipCue i x e c
      | none => s.fireCue i x e

/-- The slot is performed after the list evaluation, and emptied (R162). -/
def State.performSlot (s : State) (i : ScreenIx) : State :=
  match (s.scr i).immediate with
  | .empty => s
  | m => (s.performContent i m).setImmediate i .empty

/-- A FIRE edge offers a cue to the slot: the state, and whether it was taken (R163). -/
def State.offerCue (s : State) (i : ScreenIx) (number : Nat) (line : LineIx) : State × Bool :=
  if (s.scr i).immediate = .empty ∧ (s.findCue i number).isSome then
    (s.setImmediate i (.cue number (.contact line)), true)
  else (s, false)

/-! ### Requests -/

/-- A refusal that carries an action index (R145), in one byte (log 15). -/
def refuseAction (index : Nat) : List Byte := answer .badArg (u8 index)

/-- R145 and R146. -/
def loadCueRule (screen number time : Nat) (condition : RawCondition) (actions : List RawAction) (s : State) :
    State × List Byte :=
  match screenOf screen, conditionOf condition with
  | some i, some c =>
    if ¬ cueNumberValid number ∨ ¬ time < Config.absentPosition then (s, refuseAction 0)
    else
      match s.checkActions i actions with
      | .error k => (s, refuseAction k)
      | .ok l =>
        if (s.findCue i number).isNone ∧ s.cuesFree = 0 then (s, refuse .noSpace)
        else
          let state : CueState := if (s.scr i).clock.position < time then .armed else .passed
          let e : CueEntry := { number := number, time := time, condition := c, actions := l, state := state }
          let s := s.modCues i (fun cues => insertCue e (removeCue number cues))
          (s, answer .ok (u16 number ++ u8 state.code ++ u16 s.cuesFree))
  | _, _ => (s, refuseAction 0)

/-- LOAD_CUE (R145, R146). A payload of a wrong length is no failure of an action (log 22). -/
def execLoadCue (q : Req) (screen number time : Nat) (condition : RawCondition) (actions : List RawAction) (s : State) :
    Host.Outcome State Fault Refusal :=
  .next (s.serve (.loadCue q screen number time condition actions) q 0x17 (refuseAction 0)
    (loadCueRule screen number time condition actions))

/-- R148. -/
def dropCueRule (screen number : Nat) (s : State) : State × List Byte :=
  match screenOf screen with
  | some i =>
    if cueNumberValid number then
      match s.findCue i number with
      | none => (s, refuse .notFound)
      | some e =>
        let s := s.modCues i (removeCue number)
        (s, answer .ok (u8 e.state.code ++ u16 s.cuesFree))
    else (s, refuse .badArg)
  | none => (s, refuse .badArg)

/-- DROP_CUE (R148). -/
def execDropCue (q : Req) (screen number : Nat) (s : State) : Host.Outcome State Fault Refusal :=
  .next (s.serve (.dropCue q screen number) q 0x18 (refuse .badArg) (dropCueRule screen number))

/-- R148. -/
def clearCuesRule (screen : Nat) (s : State) : State × List Byte :=
  match screenOf screen with
  | some i => (s.modCues i (fun _ => []), answer .ok (u16 (s.scr i).cues.length))
  | none => (s, refuse .badArg)

/-- CLEAR_CUES (R148). -/
def execClearCues (q : Req) (screen : Nat) (s : State) : Host.Outcome State Fault Refusal :=
  .next (s.serve (.clearCues q screen) q 0x19 (refuse .badArg) (clearCuesRule screen))

/-- R161. -/
def fireRule (screen number : Nat) (s : State) : State × List Byte :=
  match screenOf screen with
  | some i =>
    if cueNumberValid number then
      match s.findCue i number with
      | none => (s, refuse .notFound)
      | some e =>
        if (s.scr i).immediate = .empty then
          (s.setImmediate i (.cue number .request), answer .ok (u8 e.state.code))
        else (s, refuse .busy)
    else (s, refuse .badArg)
  | none => (s, refuse .badArg)

/-- FIRE (R161). -/
def execFire (q : Req) (screen number : Nat) (s : State) : Host.Outcome State Fault Refusal :=
  .next (s.serve (.fire q screen number) q 0x1A (refuse .badArg) (fireRule screen number))

/-- R161. -/
def fireActionsRule (screen : Nat) (actions : List RawAction) (s : State) : State × List Byte :=
  match screenOf screen with
  | some i =>
    match s.checkActions i actions with
    | .error k => (s, refuseAction k)
    | .ok l =>
      if (s.scr i).immediate = .empty then (s.setImmediate i (.actions l .request), answer .ok [])
      else (s, refuse .busy)
  | none => (s, refuseAction 0)

/-- FIRE_ACTIONS (R161). -/
def execFireActions (q : Req) (screen : Nat) (actions : List RawAction) (s : State) :
    Host.Outcome State Fault Refusal :=
  .next (s.serve (.fireActions q screen actions) q 0x1B (refuseAction 0) (fireActionsRule screen actions))

/-- Every entry is ARMED again by SCREEN_RESET (R167). -/
def restartCues (l : List CueEntry) : List CueEntry := l.map (fun e => { e with state := .armed })

end Sys2Proof.Machine
end

