-- ==== Sys2Proof/Machine/Contacts.lean ====
section
/-! DEFINITION. Contact configuration and inputs (sections 9.1 and 9.3): SET_LINE, DRIVE_LINE, pin changes, debounce, and
what a recognised edge does. -/

namespace Sys2Proof.Machine

/-! ### Configuration (R168, R169) -/

/-- The action of an input, its used fields checked: NONE 0, START 1, STOP 2, RELOAD 3, CAPTURE 4, FIRE 5 (R168, R200). -/
def lineActionOf (action screen cue : Nat) : Option LineAction :=
  match action with
  | 0 => some .none
  | 1 => (screenOf screen).map .start
  | 2 => (screenOf screen).map .stop
  | 3 => (screenOf screen).map .reload
  | 4 => (screenOf screen).map .capture
  | 5 => if 1 ≤ cue ∧ cue ≤ 9999 then (screenOf screen).map (fun i => .fire i cue) else none
  | _ => none

/-- The function of an output, its used fields checked: CUE 0, FOLLOW_ALARM 1, FOLLOW_CLOCK 2, FOLLOW_STREAM 3 (R168,
R200). -/
def lineFunctionOf (function screen alarm stop : Nat) : Option LineFunction :=
  match screenOf screen, function with
  | some i, 0 => (stopPolicyOf stop).map (.cue i)
  | some i, 1 => (alarmKindOf alarm).map (.followAlarm i)
  | some i, 2 => some (.followClock i)
  | some i, 3 => some (.followStream i)
  | _, _ => none

/-- The configuration that the fields of SET_LINE give, unused fields neither checked nor kept (R168). -/
def lineConfigOf : RawLine → Option LineConfig
  | .input debounce edge action screen cue =>
    match edgeOf edge, lineActionOf action screen cue with
    | some e, some a => if 1 ≤ debounce ∧ debounce ≤ 255 then some (.input debounce e a) else none
    | _, _ => none
  | .output function screen alarm invert stop =>
    match lineFunctionOf function screen alarm stop, onOf invert with
    | some f, some on => some (.output f on)
    | _, _ => none
  | .unknown _ => none

/-- A line brought to a fresh start with a configuration (R169): an output's level is OFF, and a FOLLOW function then gives
its own (`State.lineLevel`); an input takes the level of its pin. -/
def Line.fresh (c : LineConfig) (x : Line) : Line :=
  match c with
  | .input _ _ _ => { x with config := c, level := x.pin, raw := x.pin, pulse := none, debounceTimer := none }
  | .output _ _ => { x with config := c, level := false, pulse := none, debounceTimer := none }

/-- An action's code, its screen (absent 0) and its cue number (absent all ones). -/
def LineAction.fields : LineAction → List Byte
  | .none => u8 0 ++ u8 0 ++ u16 0xFFFF
  | .start i => u8 1 ++ u8 (ScreenIx.code i) ++ u16 0xFFFF
  | .stop i => u8 2 ++ u8 (ScreenIx.code i) ++ u16 0xFFFF
  | .reload i => u8 3 ++ u8 (ScreenIx.code i) ++ u16 0xFFFF
  | .capture i => u8 4 ++ u8 (ScreenIx.code i) ++ u16 0xFFFF
  | .fire i n => u8 5 ++ u8 (ScreenIx.code i) ++ u16 n

/-- A function's fields around the invert field: function, screen and alarm kind before it, the stop policy after it
(absent ones all ones). -/
def LineFunction.fields (invert : Bool) : LineFunction → List Byte
  | .cue i p => u8 0 ++ u8 (ScreenIx.code i) ++ u8 0xFF ++ flag invert ++ u8 p.code
  | .followAlarm i k => u8 1 ++ u8 (ScreenIx.code i) ++ u8 k.code ++ flag invert ++ u8 0xFF
  | .followClock i => u8 2 ++ u8 (ScreenIx.code i) ++ u8 0xFF ++ flag invert ++ u8 0xFF
  | .followStream i => u8 3 ++ u8 (ScreenIx.code i) ++ u8 0xFF ++ flag invert ++ u8 0xFF

/-- A configuration as a reply carries it: the direction, then the fields of that direction in the order of R168
(log 15). -/
def LineConfig.fields : LineConfig → List Byte
  | .input debounce e a => u8 0 ++ u32 debounce ++ u8 e.code ++ a.fields
  | .output f invert => u8 1 ++ f.fields invert

/-- R168 and R169. -/
def setLineRule (line : Nat) (fields : RawLine) (s : State) : State × List Byte :=
  match lineOf line, lineConfigOf fields with
  | some l, some c =>
    let s := s.modLine l (Line.fresh c)
    (s, answer .ok (c.fields ++ flag (s.lineLevel l)))
  | _, _ => (s, refuse .badArg)

/-- SET_LINE (R168, R169). -/
def execSetLine (q : Req) (line : Nat) (fields : RawLine) (s : State) : Host.Outcome State Fault Refusal :=
  .next (s.serve (.setLine q line fields) q 0x1C (refuse .badArg) (setLineRule line fields))

/-- R173. -/
def driveLineRule (line operation width : Nat) (s : State) : State × List Byte :=
  match lineOf line, lineOperationOf operation width with
  | some l, some op =>
    if (s.line l).cueScreen.isSome then
      let s := s.operateLine l op
      (s, answer .ok (flag (s.lineLevel l) ++ flag (s.line l).pulse.isSome))
    else (s, refuse .state)
  | _, _ => (s, refuse .badArg)

/-- DRIVE_LINE (R173). -/
def execDriveLine (q : Req) (line operation width : Nat) (s : State) : Host.Outcome State Fault Refusal :=
  .next (s.serve (.driveLine q line operation width) q 0x1D (refuse .badArg) (driveLineRule line operation width))

/-! ### Debounce (R175) -/

/-- A pin takes a level. An input takes a change of it as its raw level and starts, restarts or stops the debounce timer
(R175); for an output only the level the outside gives is noted (log 33). -/
def Line.pinTo (now : PartTime) (high : Bool) (x : Line) : Line :=
  match x.config with
  | .input debounce _ _ =>
    if x.raw = high then { x with pin := high }
    else
      { x with pin := high, raw := high,
               debounceTimer := if high = x.level then none else some (now + BitVec.ofNat 32 debounce) }
  | .output _ _ => { x with pin := high }

/-- PIN_CHANGE (R175). -/
def execPinChange (l : LineIx) (high : Bool) (s : State) : Host.Outcome State Fault Refusal :=
  .next (s.modLine l (Line.pinTo s.time high))

/-! ### Edges (R139, R163, R176, R177) -/

/-- An edge select names a direction; BOTH names both (R175, R139). -/
def EdgeSelect.names : EdgeSelect → Bool → Bool
  | .rising, up => up
  | .falling, up => !up
  | .both, _ => true

/-- A trigger entry matches an edge of a line (R139). -/
def Trigger.matchesEdge (t : Trigger) (l : LineIx) (rising : Bool) : Bool :=
  decide (t.line = some l) && t.edge.names rising

/-- The clock of screen i carries out its matching trigger entries, in the order START, STOP, RELOAD (R139). -/
def State.runTriggers (s : State) (i : ScreenIx) (l : LineIx) (rising : Bool) : State :=
  let c := (s.scr i).clock
  let s := if c.startTrigger.matchesEdge l rising then s.clockCommand i .start (.contact l) else s
  let s := if c.stopTrigger.matchesEdge l rising then s.clockCommand i .stop (.contact l) else s
  if c.reloadTrigger.matchesEdge l rising then s.clockCommand i (.reload c.reloadPosition) (.contact l) else s

/-- The screen an action names. -/
def LineAction.screen : LineAction → Option ScreenIx
  | .none => Option.none
  | .start i => some i
  | .stop i => some i
  | .reload i => some i
  | .capture i => some i
  | .fire i _ => some i

/-- The named screen carries out the line's action (R176): the state, and whether a FIRE was not taken (R163). -/
def State.runLineAction (s : State) (l : LineIx) : LineAction → State × Bool
  | .none => (s, false)
  | .start i => (s.clockCommand i .start (.contact l), false)
  | .stop i => (s.clockCommand i .stop (.contact l), false)
  | .reload i => (s.clockCommand i (.reload (s.scr i).clock.reloadPosition) (.contact l), false)
  | .capture i => (s.capture i, false)
  | .fire i n =>
    let r := s.offerCue i n l
    (r.1, !r.2)

/-- The CONTACT record's detail: line, edge (RISING 0, FALLING 1), action, cue number (absent all ones), not taken
(R177). -/
def contactDetail (l : LineIx) (rising : Bool) (a : LineAction) (notTaken : Bool) : List Byte :=
  u8 (LineIx.code l) ++ u8 (if rising then 0 else 1) ++
    (match a with
      | .none => u8 0 ++ u16 0xFFFF
      | .start _ => u8 1 ++ u16 0xFFFF
      | .stop _ => u8 2 ++ u16 0xFFFF
      | .reload _ => u8 3 ++ u16 0xFFFF
      | .capture _ => u8 4 ++ u16 0xFFFF
      | .fire _ n => u8 5 ++ u16 n) ++
    flag notTaken

/-- The named screen's share of an edge and the CONTACT record (R176, R177). For CAPTURE the record has the position
captured, before any trigger entry; for another action the position after the edge has been carried out. -/
def State.namedEdge (s : State) (l : LineIx) (rising : Bool) (a : LineAction) : State :=
  let r := s.runLineAction l a
  let detail := contactDetail l rising a r.2
  match a.screen with
  | none => r.1.postAt .contactEdge none none detail
  | some i =>
    let t := r.1.runTriggers i l rising
    let position :=
      match a with
      | .capture _ => (s.scr i).clock.position
      | _ => (t.scr i).clock.position
    t.postAt .contactEdge (some i) (some position) detail

/-- A recognised edge is handed on: the named screen, the CONTACT record, then the other screens in ascending order (R176,
R177; log 20). -/
def State.handEdge (s : State) (l : LineIx) (rising : Bool) (a : LineAction) : State :=
  ((List.finRange 8).filter (fun i => decide (a.screen ≠ some i))).foldl (fun t i => t.runTriggers i l rising)
    (s.namedEdge l rising a)

/-- The debounce timer of an input has reached its time (R175; log 3). -/
def State.debounceDue (s : State) (l : LineIx) : Bool :=
  match (s.line l).config, (s.line l).debounceTimer with
  | .input _ _ _, some t => reached s.time t
  | _, _ => false

/-- The debounce timer expires: the level takes the raw level, and a recognised edge is handed on (R175 to R177). -/
def State.debounceEnds (s : State) (l : LineIx) : State :=
  let x := s.line l
  let s := s.modLine l (fun x => { x with level := x.raw, debounceTimer := none })
  match x.config with
  | .input _ e a => if x.raw ≠ x.level ∧ e.names x.raw then s.handEdge l x.raw a else s
  | .output _ _ => s

/-- DEBOUNCE_EXPIRY (R175). An expiry that is not due does not happen (log 3). -/
def execDebounceExpiry (l : LineIx) (s : State) : Host.Outcome State Fault Refusal :=
  .next (if s.debounceDue l then s.debounceEnds l else s)

end Sys2Proof.Machine
end

