-- ==== Sys2Proof/Machine/Events.lean ====
section
/-! DEFINITION. The event queue and statistics (chapter 10): SET_PRIORITY, SET_ATTENTION, READ_EVENTS, RELEASE_EVENTS,
SNAPSHOT and READ_STATS. Posting and admission stand in Ops. -/

namespace Sys2Proof.Machine

/-! ### Priorities and attention (R182, R186) -/

/-- Sets the priority of the kind of a code (section 11.4); none for GUARD (2) and for no kind (R182). -/
def Priorities.withKind (p : Priorities) (kind priority : Nat) : Option Priorities :=
  match kind with
  | 1 => some { p with alarm := priority }
  | 3 => some { p with stream := priority }
  | 4 => some { p with decode := priority }
  | 5 => some { p with preset := priority }
  | 6 => some { p with cue := priority }
  | 7 => some { p with clock := priority }
  | 8 => some { p with contact := priority }
  | _ => none

/-- The seven priorities in the order of R182. -/
def Priorities.fields (p : Priorities) : List Byte :=
  u8 p.alarm ++ u8 p.stream ++ u8 p.decode ++ u8 p.preset ++ u8 p.cue ++ u8 p.clock ++ u8 p.contact

/-- R182. -/
def setPriorityRule (kind priority : Nat) (s : State) : State × List Byte :=
  match s.queue.priorities.withKind kind priority with
  | some p =>
    if priority ≤ 7 then (s.modQueue (fun q => { q with priorities := p }), answer .ok p.fields)
    else (s, refuse .badArg)
  | none => (s, refuse .badArg)

/-- SET_PRIORITY (R182). -/
def execSetPriority (q : Req) (kind priority : Nat) (s : State) : Host.Outcome State Fault Refusal :=
  .next (s.serve (.setPriority q kind priority) q 0x1E (refuse .badArg) (setPriorityRule kind priority))

/-- R186. -/
def setAttentionRule (threshold urgent : Nat) (s : State) : State × List Byte :=
  if (threshold = 1 ∨ threshold = 4 ∨ threshold = 16 ∨ threshold = 64) ∧ 1 ≤ urgent ∧ urgent ≤ 7 then
    (s.modQueue (fun q => { q with threshold := threshold, urgent := urgent }), answer .ok (u8 threshold ++ u8 urgent))
  else (s, refuse .badArg)

/-- SET_ATTENTION (R186). -/
def execSetAttention (q : Req) (threshold urgent : Nat) (s : State) : Host.Outcome State Fault Refusal :=
  .next (s.serve (.setAttention q threshold urgent) q 0x1F (refuse .badArg) (setAttentionRule threshold urgent))

/-! ### Reading and releasing (R183, R184) -/

/-- An event record as it is sent (section 11.4). -/
def EventRecord.bytes (r : EventRecord) : List Byte :=
  u8 r.what.kindCode ++ u8 r.what.subCode ++ u8 ((r.screen.map ScreenIx.code).getD 0) ++ flag (decide (r.lost ≠ 0)) ++
    u32 r.time.toNat ++ positionField r.position ++ u16 r.lost ++ u8 r.detail.length ++ r.detail

/-- R183. -/
def readEventsRule (n : Nat) (s : State) : State × List Byte :=
  if 1 ≤ n ∧ n ≤ 16 then
    (s.modQueue (fun q => { q with attention := false }),
      answer .ok (u16 s.queue.records.length ++ u16 s.queue.lost ++
        listField ((s.queue.records.take n).map EventRecord.bytes)))
  else (s, refuse .badArg)

/-- READ_EVENTS (R183). -/
def execReadEvents (q : Req) (n : Nat) (s : State) : Host.Outcome State Fault Refusal :=
  .next (s.serve (.readEvents q n) q 0x20 (refuse .badArg) (readEventsRule n))

/-- R184. -/
def releaseEventsRule (n : Nat) (s : State) : State × List Byte :=
  if 1 ≤ n ∧ n ≤ 256 then
    let removed := min n s.queue.records.length
    (s.modQueue (fun q => { q with records := q.records.drop n }),
      answer .ok (u16 removed ++ u16 (s.queue.records.length - removed)))
  else (s, refuse .badArg)

/-- RELEASE_EVENTS (R184). -/
def execReleaseEvents (q : Req) (n : Nat) (s : State) : Host.Outcome State Fault Refusal :=
  .next (s.serve (.releaseEvents q n) q 0x21 (refuse .badArg) (releaseEventsRule n))

/-! ### Statistics (R188, R189) -/

/-- Copies a screen's live counters to their shadows at a part time, and clears them if asked (R188). -/
def Screen.snapshotAt (now : PartTime) (clear : Bool) (c : Screen) : Screen :=
  { c with shadow := c.live, live := if clear then Counters.zero else c.live, snapshot := some now }

/-- Copies every counter of the part, the screens' and the three part counters (R188). -/
def State.snapshotAll (s : State) (clear : Bool) : State :=
  { s with screens := s.screens.map (Screen.snapshotAt s.time clear),
           partShadow := s.partLive,
           partLive := if clear then PartCounters.zero else s.partLive,
           partSnapshot := some s.time }

/-- R188. The scope: a screen 1 to 8, or ALL 0xFF. -/
def snapshotRule (scope clear : Nat) (s : State) : State × List Byte :=
  let ok : List Byte := answer .ok (u8 scope ++ optTimeField (some s.time))
  match onOf clear, screenOf scope with
  | some on, some i => (s.modScreen i (Screen.snapshotAt s.time on), ok)
  | some on, none => if scope = 0xFF then (s.snapshotAll on, ok) else (s, refuse .badArg)
  | none, _ => (s, refuse .badArg)

/-- SNAPSHOT (R188). -/
def execSnapshot (q : Req) (scope clear : Nat) (s : State) : Host.Outcome State Fault Refusal :=
  .next (s.serve (.snapshot q scope clear) q 0x22 (refuse .badArg) (snapshotRule scope clear))

/-- The eleven counters in the order of section 10.5. -/
def Counters.fields (c : Counters) : List Byte :=
  u32 c.packetsAccepted ++ u32 c.late ++ u32 c.duplicate ++ u32 c.resyncs ++ u32 c.blocksConcealed ++ u32 c.underruns ++
    u32 c.failovers ++ u32 c.clipBlocks ++ u32 c.cuesFired ++ u32 c.cuesPassed ++ u32 c.alarmRaises

/-- The three part counters in the order of section 10.5. -/
def PartCounters.fields (c : PartCounters) : List Byte :=
  u32 c.framesDiscarded ++ u32 c.packetsUnmatched ++ u32 c.packetsMalformed

/-- A screen's snapshot time and shadow counters (R189). -/
def Screen.statsFields (c : Screen) : List Byte := optTimeField c.snapshot ++ c.shadow.fields

/-- The part's snapshot time and shadow counters (R189). -/
def State.partStatsFields (s : State) : List Byte := optTimeField s.partSnapshot ++ s.partShadow.fields

/-- R189. The scope: a screen 1 to 8, PART 0xFE, or ALL 0xFF. -/
def readStatsRule (scope : Nat) (s : State) : State × List Byte :=
  match screenOf scope with
  | some i => (s, answer .ok (s.scr i).statsFields)
  | none =>
    if scope = 0xFE then (s, answer .ok s.partStatsFields)
    else if scope = 0xFF then
      (s, answer .ok (listField (s.screens.toList.map Screen.statsFields) ++ s.partStatsFields))
    else (s, refuse .badArg)

/-- READ_STATS (R189). -/
def execReadStats (q : Req) (scope : Nat) (s : State) : Host.Outcome State Fault Refusal :=
  .next (s.serve (.readStats q scope) q 0x23 (refuse .badArg) (readStatsRule scope))

end Sys2Proof.Machine
end

