-- ==== Sys2Proof/Machine/Query.lean ====
section
/-! DEFINITION. HELLO and QUERY (R197, R99): what the part and a screen report, in the order of their rule. -/

namespace Sys2Proof.Machine

/-! ### HELLO -/

/-- A name: a length byte, then that many ASCII bytes (R197). -/
def nameField (name : List Nat) : List Byte := u8 name.length ++ name.flatMap u8

/-- "Iverte" in ASCII (R197). -/
def vendorName : List Nat := [73, 118, 101, 114, 116, 101]

/-- "Jartega JA-8" in ASCII (R197). -/
def partName : List Nat := [74, 97, 114, 116, 101, 103, 97, 32, 74, 65, 45, 56]

/-- The seven capacities (R197). -/
def capacities : List Nat := [8, 16, Config.bandPool, 32, Config.cuePool, 20, Config.queuePlaces]

/-- R197. -/
def helloRule (s : State) : State × List Byte :=
  (s, answer .ok (nameField vendorName ++ nameField partName ++ [Config.siliconRevision] ++ capacities.flatMap u16))

/-- HELLO (R197). -/
def execHello (q : Req) (s : State) : Host.Outcome State Fault Refusal :=
  .next (s.serve (.hello q) q 0x24 (refuse .badArg) helloRule)

/-! ### QUERY -/

/-- A slot: state, fill, stream ID, expected sequence and source address, each absent when it holds none. -/
def Slot.fields (x : Slot) : List Byte :=
  u8 x.state.code ++ u16 x.fill ++ u32 (x.streamId.getD (BitVec.allOnes 32)).toNat ++
    u16 (x.expected.getD (BitVec.allOnes 16)).toNat ++ beBytes 6 (x.source.getD (BitVec.allOnes 48)).toNat

def Intake.fields (k : Intake) : List Byte :=
  k.slotA.fields ++ k.slotB.fields ++ u8 k.selection.code ++ u8 k.staged.code

def Decoder.fields (d : Decoder) : List Byte :=
  layoutFields d.mask d.topology d.delay ++ u8 (forcedCode d.forced) ++ u8 (inForceCode d.inForce) ++ s16 d.centre ++
    s16 d.surround

/-- A list over the eight buses. -/
def busList (f : Bus → List Byte) : List Byte := listField ((List.finRange 8).map f)

def State.equaliserFields (s : State) (i : ScreenIx) : List Byte :=
  let e := (s.scr i).equaliser
  targetField e.active ++ optTargetField e.incoming ++ optTargetField e.waiting ++ u8 e.switch.code ++
    u8 (phaseCode e.phase) ++ u16 e.count ++ u16 (s.bandsHeld i) ++ u16 s.bandsFree ++
    busList (fun b => s16 (s.offsetInForce i b))

/-- The gain stage's share (R63, R197). The eight offsets are one list of pairs, current and target, and the eight mutes one
list of pairs, target and current: the manual does not say whether each is one list or two (DESIGN CHOICE, log 37). -/
def Gain.fields (g : Gain) : List Byte :=
  u8 g.faderPosition ++ s16 g.fader.target ++ s16 g.fader.current ++ u8 g.limit ++ busList (fun b => s16 g.trims[b]) ++
    busList (fun b => s16 g.offsets[b].current ++ s16 g.offsets[b].target) ++
    busList (fun b => s16 g.mutes[b].target ++ s16 g.mutes[b].current) ++ s16 g.switchTerm.current ++
    s16 g.switchTerm.target

/-- The published readings, each level in dBFS and in SPL (R99). The eight bus levels are one list of pairs, dBFS and SPL: the
manual does not say whether they are one list or two (DESIGN CHOICE, log 37). -/
def Meters.fields (m : Meters) : List Byte :=
  s16 m.totalLevel ++ s16 (m.spl m.totalLevel) ++ u16 m.totalIntervals ++
    busList (fun b => s16 m.busLevels[b] ++ s16 (m.spl m.busLevels[b])) ++ busList (fun b => u16 m.clipCounts[b]) ++
    u16 m.window ++ s16 m.calibration

/-- The 18 instances, each with its state and acknowledged flag. -/
def Alarms.fields (a : Alarms) : List Byte :=
  listField (AlarmId.all.map (fun id => u8 (a.get id).state.code ++ flag (a.get id).acknowledged))

def GuardBlock.fields (g : GuardBlock) : List Byte := s16 g.value ++ u8 g.direction.code ++ g.settingsFields

def Trigger.fields (t : Trigger) : List Byte := lineField t.line ++ u8 t.edge.code

def Clock.fields (c : Clock) : List Byte :=
  u8 c.state.code ++ u32 c.position ++ u8 c.mode.code ++ u32 c.length ++ u8 c.endMode.code ++ u32 c.passWindow ++
    u32 c.flywheelLimit ++ u16 c.flywheelCount ++ c.startTrigger.fields ++ c.stopTrigger.fields ++
    c.reloadTrigger.fields ++ u32 c.reloadPosition

/-- The level of each line and whether a pulse is in progress on it. -/
def State.lineFields (s : State) : List Byte :=
  listField ((List.finRange 20).map (fun l => flag (s.lineLevel l) ++ flag (s.line l).pulse.isSome))

/-- What QUERY reports of screen i, in the order of R197. -/
def State.queryFields (s : State) (i : ScreenIx) : List Byte :=
  let c := s.scr i
  c.intake.fields ++ c.decoder.fields ++ s.equaliserFields i ++ c.gain.fields ++ c.meters.fields ++ c.alarms.fields ++
    c.guard.fields ++ c.clock.fields ++ flag (decide (c.immediate ≠ .empty)) ++ s.lineFields

/-- R197. -/
def queryRule (screen : Nat) (s : State) : State × List Byte :=
  match screenOf screen with
  | some i => (s, answer .ok (s.queryFields i))
  | none => (s, refuse .badArg)

/-- QUERY (R197). -/
def execQuery (q : Req) (screen : Nat) (s : State) : Host.Outcome State Fault Refusal :=
  .next (s.serve (.query q screen) q 0x25 (refuse .badArg) (queryRule screen))

end Sys2Proof.Machine
end

