-- ==== Sys2Proof/Machine/Boundary.lean ====
section
/-! DEFINITION. A screen's block boundary (00_scope, "Block boundaries"): the work of every block of the screen in its
order, and the commands that name an event the boundary brings about. -/

namespace Sys2Proof.Machine

/-! ### The stages -/

/-- The clock's share: the take, then the clock's move on the block taken (R18, R129; log 10). -/
def State.taken (s : State) (i : ScreenIx) : State × Taken × Movement :=
  let r := s.take i
  let m := r.1.moveClock i r.2
  (m.1, r.2, m.2)

/-- The audio path on the block taken: decoded, equalised, gained with the steering values left by the boundary before,
then what a switch in progress does (R44, R47, R62, R73, R78, R81; log 12). Answers the clip flags. -/
def State.audio (s : State) (i : ScreenIx) (t : Taken) : State × Vector Bool 8 :=
  let d := (s.scr i).decoder
  let buses := s.decode i t
  let e := buses.1.equalise i buses.2
  let g := e.1.gainStage i d.centre d.surround e.2
  (g.1.switchProgress i, g.2)

/-- The meters take the block the lane was given (R62, R89, R90, R95). -/
def State.meterBlock (s : State) (i : ScreenIx) (clips : Vector Bool 8) : State :=
  s.modMeters i (fun m => m.block (s.scr i).lane clips)

/-- The boundary up to the interval close: take, clock, audio path, meters, cue list, immediate slot. -/
def State.beforeClose (s : State) (i : ScreenIx) : State :=
  let t := s.taken i
  let a := t.1.audio i t.2.1
  ((a.1.meterBlock i a.2).evaluateCues i t.2.2).performSlot i

/-- The close of an interval: the meters publish, then the 18 instances and the guard are evaluated (R90, R102). -/
def State.closeInterval (s : State) (i : ScreenIx) : State :=
  ((s.modMeters i Meters.close).evaluateAlarms i).evaluateGuard i

/-- The whole boundary of a screen. -/
def State.boundary (s : State) (i : ScreenIx) : State :=
  let s := s.beforeClose i
  if 10 ≤ (s.scr i).meters.boundaryCount then s.closeInterval i else s

/-- BLOCK_BOUNDARY: one block of the screen (R18). -/
def execBlockBoundary (i : ScreenIx) (s : State) : Host.Outcome State Fault Refusal := .next (s.boundary i)

/-! ### The events inside a boundary (log 1)

Each of the commands below is the boundary of the screen at which its event falls due; where the next boundary of the
screen would not bring the event about, the event does not happen and nothing changes. -/

/-- How the clock's move ends at the screen's next boundary. -/
def State.clockOutcome (s : State) (i : ScreenIx) : ClockOutcome :=
  let r := s.take i
  ((r.1.scr i).clock.move r.2.clockPosition).1.outcome

/-- CLOCK_END (R130, R132). -/
def execClockEnd (i : ScreenIx) (s : State) : Host.Outcome State Fault Refusal :=
  .next (if s.clockOutcome i = .ended then s.boundary i else s)

/-- WRAP (R131). -/
def execWrap (i : ScreenIx) (s : State) : Host.Outcome State Fault Refusal :=
  .next (if s.clockOutcome i = .wrapped then s.boundary i else s)

/-- FLYWHEEL_HOLD (R133). -/
def execFlywheelHold (i : ScreenIx) (s : State) : Host.Outcome State Fault Refusal :=
  .next (if s.clockOutcome i = .held then s.boundary i else s)

/-- The next boundary is the crossfade's 32nd (R78). -/
def Screen.crossfadeDue (c : Screen) : Bool :=
  decide (c.equaliser.switch = .crossfade) && decide (32 ≤ c.equaliser.count + 1)

/-- The switch term after its next step (R56). -/
def Screen.nextSwitchTerm (c : Screen) : Int := (c.gain.switchTerm.step 60).current

/-- The switch term arrives at -480 at the next boundary, in a fade-out (R81). -/
def Screen.cutSwapDue (c : Screen) : Bool :=
  decide (c.equaliser.switch = .cut) && decide (c.equaliser.phase = some .fadeOut) && decide (c.nextSwitchTerm = -480)

/-- The switch term returns to 0 at the next boundary, in a fade-in (R81). -/
def Screen.cutEndDue (c : Screen) : Bool :=
  decide (c.equaliser.switch = .cut) && decide (c.equaliser.phase = some .fadeIn) && decide (c.nextSwitchTerm = 0)

/-- CROSSFADE_COMPLETE (R78). -/
def execCrossfadeComplete (i : ScreenIx) (s : State) : Host.Outcome State Fault Refusal :=
  .next (if (s.scr i).crossfadeDue then s.boundary i else s)

/-- CUT_SWAP (R81). -/
def execCutSwap (i : ScreenIx) (s : State) : Host.Outcome State Fault Refusal :=
  .next (if (s.scr i).cutSwapDue then s.boundary i else s)

/-- CUT_COMPLETE (R81). -/
def execCutComplete (i : ScreenIx) (s : State) : Host.Outcome State Fault Refusal :=
  .next (if (s.scr i).cutEndDue then s.boundary i else s)

/-- The next boundary closes an interval (R90). -/
def Screen.closeDue (c : Screen) : Bool := decide (10 ≤ c.meters.boundaryCount + 1)

/-- INTERVAL_CLOSE (R90). -/
def execIntervalClose (i : ScreenIx) (s : State) : Host.Outcome State Fault Refusal :=
  .next (if (s.scr i).closeDue then s.boundary i else s)

/-- The screen as the alarm monitor finds it at the close of the next boundary. -/
def State.published (s : State) (i : ScreenIx) : Screen :=
  (((s.beforeClose i).modMeters i Meters.close).readStream i).scr i

/-- What an instance posts at the close of the next boundary, when that boundary closes an interval. -/
def State.alarmPost (s : State) (i : ScreenIx) (id : AlarmId) : Option AlarmPost :=
  if (s.scr i).closeDue then ((s.published i).alarmMove id).post else none

/-- The post of a clear dwell's end: CLEARED or LATCHED (R111). -/
def AlarmPost.isClear : AlarmPost → Bool
  | .cleared => true
  | .latched => true
  | _ => false

def AlarmPost.isRemind : AlarmPost → Bool
  | .remind _ => true
  | _ => false

/-- RAISE_DWELL_EXPIRY (R109). -/
def execRaiseDwellExpiry (i : ScreenIx) (id : AlarmId) (s : State) : Host.Outcome State Fault Refusal :=
  .next (if s.alarmPost i id = some .raised then s.boundary i else s)

/-- CLEAR_DWELL_EXPIRY (R111). -/
def execClearDwellExpiry (i : ScreenIx) (id : AlarmId) (s : State) : Host.Outcome State Fault Refusal :=
  .next (if (s.alarmPost i id).any AlarmPost.isClear then s.boundary i else s)

/-- REMIND (R112). -/
def execRemind (i : ScreenIx) (id : AlarmId) (s : State) : Host.Outcome State Fault Refusal :=
  .next (if (s.alarmPost i id).any AlarmPost.isRemind then s.boundary i else s)

/-- The screen as the guard finds it at the close of the next boundary, after the 18 instances (R122). -/
def State.evaluated (s : State) (i : ScreenIx) : Screen :=
  (((s.beforeClose i).modMeters i Meters.close).evaluateAlarms i).scr i

/-- GUARD_REDUCE_STEP (R122). -/
def execGuardReduceStep (i : ScreenIx) (s : State) : Host.Outcome State Fault Refusal :=
  .next (if (s.scr i).closeDue && (s.evaluated i).guardReduces then s.boundary i else s)

/-- GUARD_RELEASE_STEP (R124). -/
def execGuardReleaseStep (i : ScreenIx) (s : State) : Host.Outcome State Fault Refusal :=
  .next (if (s.scr i).closeDue && (s.evaluated i).guardReleases then s.boundary i else s)

end Sys2Proof.Machine
end

