-- ==== Sys2Proof/Machine/Port.lean ====
section
/-! DEFINITION. The control port (chapter 11): the check, the receiver, the holding area, BAD_KIND, sending, and the
resets of the part and of a screen. -/

namespace Sys2Proof.Machine

/-! ### Frames on the line (R192) -/

/-- One bit of the check: polynomial x^16 + x^12 + x^5 + 1, most significant bit first (R192). -/
def crcBit (c : BitVec 16) : BitVec 16 := if c.getLsbD 15 then (c <<< 1) ^^^ 0x1021#16 else c <<< 1

/-- One byte of the check. -/
def crcByte (c : BitVec 16) (b : Byte) : BitVec 16 :=
  crcBit (crcBit (crcBit (crcBit (crcBit (crcBit (crcBit (crcBit (c ^^^ (b.setWidth 16 <<< 8)))))))))

/-- The CRC-16 of a frame, from 0xFFFF (R192). -/
def crc16 (bytes : List Byte) : BitVec 16 := bytes.foldl crcByte 0xFFFF#16

/-- SYNC (R192). -/
def sync : Byte := 0xA5

/-- Offsets 1 to 4 + length of a frame. -/
def frameBody (f : Frame) : List Byte := u16 f.payload.length ++ [f.tag, f.kind] ++ f.payload

/-- A frame as it stands on the line (R192). -/
def frameBytes (f : Frame) : List Byte := [sync] ++ frameBody f ++ u16 (crc16 (frameBody f)).toNat

/-! ### The receiver (R193, R194) -/

/-- A valid frame is offered to the holding area: held, answered BUSY, or discarded and counted (R194, R195). While RESET is
served no BUSY reply is produced (R198). -/
def State.offerFrame (s : State) (f : Frame) : State :=
  if s.port.holding.length < 4 then s.modPort (fun p => { p with holding := p.holding ++ [f] })
  else if s.port.phase = .accepting ∧ s.port.path.length < 14 then
    s.pushPath (replyFrame f.tag f.kind (refuse .busy))
  else s.countDiscard

/-- What the receiver makes of the bytes since its last SYNC. -/
inductive Scan where
  | wait
  | hunt
  | tooLong
  | badCheck
  | frame (f : Frame) (after : List Byte)
  deriving DecidableEq, Repr

/-- Examines bytes whose first is where the receiver stands (R193): a byte that is no SYNC is hunted past, a length above
1,024 or a check that does not match discards the frame, a complete frame is valid. -/
def scanBytes (bytes : List Byte) : Scan :=
  match bytes with
  | [] => .wait
  | b :: rest =>
    if b ≠ sync then .hunt
    else
      match rest with
      | l0 :: l1 :: more =>
        let n := n16 l0 l1
        if Config.maxPayload < n then .tooLong
        else
          match more with
          | tag :: kind :: tail =>
            let payload := tail.take n
            match tail.drop n with
            | c0 :: c1 :: after =>
              if crc16 ([l0, l1, tag, kind] ++ payload) = BitVec.ofNat 16 (n16 c0 c1) then
                .frame { tag := tag, kind := kind, payload := payload } after
              else .badCheck
            | _ => .wait
          | _ => .wait
      | _ => .wait

/-- Runs the receiver over bytes until it waits for more (R193). A discard by length or check hunts on from the byte after
the discarded frame's SYNC. Each round takes a byte at least, so as many rounds as bytes are enough. -/
def State.receiveRounds : Nat → List Byte → State → State
  | 0, bytes, s => s.modPort (fun p => { p with received := bytes })
  | k + 1, bytes, s =>
    match scanBytes bytes with
    | .wait => s.modPort (fun p => { p with received := bytes })
    | .hunt => State.receiveRounds k bytes.tail s
    | .tooLong => State.receiveRounds k bytes.tail s.countDiscard
    | .badCheck => State.receiveRounds k bytes.tail s.countDiscard
    | .frame f after => State.receiveRounds k after (s.offerFrame f)

/-- Bytes arrive at the receiver. Before the port begins accepting they are ignored (R193, R198). -/
def State.receive (s : State) (bytes : List Byte) : State :=
  if s.port.phase = .starting ∨ bytes = [] then s
  else
    let all := s.port.received ++ bytes
    State.receiveRounds all.length all (s.modPort (fun p => { p with lastByte := s.time }))

/-- CONTROL_FRAME: the bytes of a frame arrive (R193, R194; log 32). -/
def execControlFrame (bytes : List Byte) (s : State) : Host.Outcome State Fault Refusal := .next (s.receive bytes)

/-- FRAME_LENGTH_DISCARD: a SYNC and two length bytes above 1,024 arrive (R193). A length of 1,024 or less is no discard,
and nothing happens. -/
def execFrameLengthDiscard (length : BitVec 16) (s : State) : Host.Outcome State Fault Refusal :=
  .next (if Config.maxPayload < length.toNat then s.receive (sync :: u16 length.toNat) else s)

/-- A frame is in progress and 50 ms have passed since its last byte (R193). -/
def State.frameTimeoutDue (s : State) : Bool :=
  decide (s.port.phase ≠ .starting) && decide (s.port.received ≠ []) && elapsed s.time s.port.lastByte 50

/-- FRAME_TIMEOUT: the frame in progress is discarded and counted, and hunting resumes with the next byte (R193). A timeout
that is not due does not happen (log 3). -/
def execFrameTimeout (s : State) : Host.Outcome State Fault Refusal :=
  .next (if s.frameTimeoutDue then (s.modPort (fun p => { p with received := [] })).countDiscard else s)

/-! ### Service by the port (R194) -/

/-- A kind that is not served: 0x00 and 0x28 to 0xFF (R194). -/
def unserved (kind : Byte) : Bool := decide (kind.toNat = 0) || decide (0x28 ≤ kind.toNat)

/-- The kind from which BAD_KIND's reply kind is formed: 0x40 for a kind of 0x40 or above, else kind plus 0x40 (R194). -/
def badKindBase (kind : Byte) : Byte := if 0x40 ≤ kind.toNat then 0 else kind

/-- BAD_KIND: service of a held frame of an unserved kind (R194). -/
def execBadKind (tag kind : Byte) (s : State) : Host.Outcome State Fault Refusal :=
  .next
    (if unserved kind then
      s.serve (.badKind tag kind) { tag := tag, lengthOk := true } (badKindBase kind) (refuse .badKind)
        (fun s => (s, refuse .badKind))
    else s)

/-! ### Sending (R195, R196) -/

/-- REPLY_TRANSMIT: the oldest frame of the reply path has been sent whole (R195). An empty path sends nothing. -/
def execReplyTransmit (s : State) : Host.Outcome State Fault Refusal :=
  .next
    (match s.port.path with
      | [] => s
      | f :: rest => { s.modPort (fun p => { p with path := rest }) with controlOut := s.controlOut ++ [frameBytes f] })

/-- READY: the port begins accepting requests, hunting, and sends its notice once (R193, R196). -/
def execReady (s : State) : Host.Outcome State Fault Refusal :=
  .next
    (if s.port.phase = .starting then
      (s.modPort (fun p => { p with phase := .accepting, received := [] })).pushPath readyNotice
    else s)

/-! ### Resets of the part (R198) -/

/-- RESET: its OK reply is placed on the path, and service stops (R198). -/
def execReset (q : Req) (s : State) : Host.Outcome State Fault Refusal :=
  .next (s.serve (.reset q) q 0x26 (refuse .badArg)
    (fun s => (s.modPort (fun p => { p with phase := .resetServed }), answer .ok [])))

/-- Every holding slot sends PACE_GO (R15, R26, R198), in ascending screen order and slot A before slot B: the manual gives no
order (DESIGN CHOICE, log 36). -/
def State.releaseHolding (s : State) : State := allSlots.foldl (fun s p => s.endHolding p.1 p.2) s

/-- The power-on values with a library: what lies outside the part stays, the pins, what has been sent, and the commands
still to come (R26, R45, R64, R87, R100, R118, R127, R142, R166, R178, R190, R198). -/
def State.restartWith (s : State) (library : Vector (Option Preset) 32) : State :=
  { State.reset with library := library, lines := s.lines.map (fun x => Line.reset x.pin), controlOut := s.controlOut,
                     paceOut := s.paceOut, pending := s.pending }

/-- The OK reply of a RESET (R192, R198). -/
def isResetReply (f : Frame) : Bool := decide (f.kind = 0x66) && decide (f.payload = answer .ok [])

/-- RESET was served and its OK reply has been sent (R198). -/
def State.resetDue (s : State) : Bool := decide (s.port.phase = .resetServed) && !s.port.path.any isResetReply

/-- RESET_TAKES_EFFECT: PACE_GO for every holding slot, then the RESET values; the library is kept (R198). -/
def execResetTakesEffect (s : State) : Host.Outcome State Fault Refusal :=
  .next (if s.resetDue then s.releaseHolding.restartWith s.library else s)

/-- POWER_ON: as RESET without the reply, PACE_GO for every holding slot included, and the library is emptied (R198, R15, R66;
log 25). -/
def execPowerOn (s : State) : Host.Outcome State Fault Refusal :=
  .next (s.releaseHolding.restartWith State.reset.library)

/-- RESET_INPUT_RELEASE: as power-on (R198; log 25). -/
def execResetInputRelease (s : State) : Host.Outcome State Fault Refusal :=
  .next (s.releaseHolding.restartWith State.reset.library)

/-! ### SCREEN_RESET (R199) -/

/-- Every block of a screen takes its starting state (R27, R46, R65, R86, R101, R119, R127, R143, R167, R191). -/
def Screen.restart (c : Screen) : Screen :=
  { c with intake := c.intake.restart, decoder := c.decoder.restart, gain := c.gain.restart,
           equaliser := Equaliser.reset, meters := c.meters.restart, alarms := c.alarms.restart,
           guard := c.guard.restart, clock := c.clock.restart, cues := restartCues c.cues, immediate := .empty,
           live := Counters.zero }

/-- The reset of a screen: PACE_GO for its holding slots, slot A's first (log 36), its blocks, and the stop policy of its
CUE lines (R199). -/
def State.screenReset (s : State) (i : ScreenIx) : State :=
  ((((s.endHolding i .a).endHolding i .b).modScreen i Screen.restart)).applyStopPolicy i

/-- R199. -/
def screenResetRule (screen : Nat) (s : State) : State × List Byte :=
  match screenOf screen with
  | some i => (s.screenReset i, answer .ok [])
  | none => (s, refuse .badArg)

/-- SCREEN_RESET (R199). -/
def execScreenReset (q : Req) (screen : Nat) (s : State) : Host.Outcome State Fault Refusal :=
  .next (s.serve (.screenReset q screen) q 0x27 (refuse .badArg) (screenResetRule screen))

end Sys2Proof.Machine
end

