-- ==== Sys2Proof/Machine/Dispatch.lean ====
section
/-! DEFINITION. The dispatch: each command's meaning. -/

namespace Sys2Proof.Machine

def exec (i : Instr) (s : State) : Host.Outcome State Fault Refusal :=
  match i with
  | .bind q screen slot stream => Sys2Proof.Machine.execBind q screen slot stream s
  | .unbind q screen slot => Sys2Proof.Machine.execUnbind q screen slot s
  | .setIntake q screen start low high policy pacing => Sys2Proof.Machine.execSetIntake q screen start low high policy pacing s
  | .setSource q screen slot => Sys2Proof.Machine.execSetSource q screen slot s
  | .listSeen q discovery => Sys2Proof.Machine.execListSeen q discovery s
  | .setLayout q screen mask topology delay => Sys2Proof.Machine.execSetLayout q screen mask topology delay s
  | .setFormat q screen format => Sys2Proof.Machine.execSetFormat q screen format s
  | .setFader q screen position ramp => Sys2Proof.Machine.execSetFader q screen position ramp s
  | .setLimit q screen position => Sys2Proof.Machine.execSetLimit q screen position s
  | .setTrim q screen mask trim => Sys2Proof.Machine.execSetTrim q screen mask trim s
  | .setMute q screen mask on => Sys2Proof.Machine.execSetMute q screen mask on s
  | .loadPreset q slot mode mask buses => Sys2Proof.Machine.execLoadPreset q slot mode mask buses s
  | .dropPreset q slot => Sys2Proof.Machine.execDropPreset q slot s
  | .selectPreset q screen preset => Sys2Proof.Machine.execSelectPreset q screen preset s
  | .setMeter q screen window calibration => Sys2Proof.Machine.execSetMeter q screen window calibration s
  | .setAlarm q screen kind threshold hysteresis raise clear latch interval count => Sys2Proof.Machine.execSetAlarm q screen kind threshold hysteresis raise clear latch interval count s
  | .ackAlarm q screen kind bus => Sys2Proof.Machine.execAckAlarm q screen kind bus s
  | .setGuard q screen enable step interval floor release => Sys2Proof.Machine.execSetGuard q screen enable step interval floor release s
  | .setClock q screen mode length endMode pass flywheel => Sys2Proof.Machine.execSetClock q screen mode length endMode pass flywheel s
  | .clock q screen command position => Sys2Proof.Machine.execClock q screen command position s
  | .setTrigger q screen entry line edge position => Sys2Proof.Machine.execSetTrigger q screen entry line edge position s
  | .readCapture q screen => Sys2Proof.Machine.execReadCapture q screen s
  | .loadCue q screen number time condition actions => Sys2Proof.Machine.execLoadCue q screen number time condition actions s
  | .dropCue q screen number => Sys2Proof.Machine.execDropCue q screen number s
  | .clearCues q screen => Sys2Proof.Machine.execClearCues q screen s
  | .fire q screen number => Sys2Proof.Machine.execFire q screen number s
  | .fireActions q screen actions => Sys2Proof.Machine.execFireActions q screen actions s
  | .setLine q line fields => Sys2Proof.Machine.execSetLine q line fields s
  | .driveLine q line operation width => Sys2Proof.Machine.execDriveLine q line operation width s
  | .setPriority q kind priority => Sys2Proof.Machine.execSetPriority q kind priority s
  | .setAttention q threshold urgent => Sys2Proof.Machine.execSetAttention q threshold urgent s
  | .readEvents q n => Sys2Proof.Machine.execReadEvents q n s
  | .releaseEvents q n => Sys2Proof.Machine.execReleaseEvents q n s
  | .snapshot q scope clear => Sys2Proof.Machine.execSnapshot q scope clear s
  | .readStats q scope => Sys2Proof.Machine.execReadStats q scope s
  | .hello q => Sys2Proof.Machine.execHello q s
  | .query q screen => Sys2Proof.Machine.execQuery q screen s
  | .reset q => Sys2Proof.Machine.execReset q s
  | .screenReset q screen => Sys2Proof.Machine.execScreenReset q screen s
  | .badKind tag kind => Sys2Proof.Machine.execBadKind tag kind s
  | .controlFrame bytes => Sys2Proof.Machine.execControlFrame bytes s
  | .frameTimeout => Sys2Proof.Machine.execFrameTimeout s
  | .replyTransmit => Sys2Proof.Machine.execReplyTransmit s
  | .resetTakesEffect => Sys2Proof.Machine.execResetTakesEffect s
  | .ready => Sys2Proof.Machine.execReady s
  | .powerOn => Sys2Proof.Machine.execPowerOn s
  | .resetInputRelease => Sys2Proof.Machine.execResetInputRelease s
  | .audioPacket dest etherType source payload => Sys2Proof.Machine.execAudioPacket dest etherType source payload s
  | .lostTimeout screen slot => Sys2Proof.Machine.execLostTimeout screen slot s
  | .blockBoundary screen => Sys2Proof.Machine.execBlockBoundary screen s
  | .clockEnd screen => Sys2Proof.Machine.execClockEnd screen s
  | .wrap screen => Sys2Proof.Machine.execWrap screen s
  | .flywheelHold screen => Sys2Proof.Machine.execFlywheelHold screen s
  | .crossfadeComplete screen => Sys2Proof.Machine.execCrossfadeComplete screen s
  | .cutSwap screen => Sys2Proof.Machine.execCutSwap screen s
  | .cutComplete screen => Sys2Proof.Machine.execCutComplete screen s
  | .intervalClose screen => Sys2Proof.Machine.execIntervalClose screen s
  | .raiseDwellExpiry screen alarm => Sys2Proof.Machine.execRaiseDwellExpiry screen alarm s
  | .clearDwellExpiry screen alarm => Sys2Proof.Machine.execClearDwellExpiry screen alarm s
  | .remind screen alarm => Sys2Proof.Machine.execRemind screen alarm s
  | .guardReduceStep screen => Sys2Proof.Machine.execGuardReduceStep screen s
  | .guardReleaseStep screen => Sys2Proof.Machine.execGuardReleaseStep screen s
  | .pinChange line high => Sys2Proof.Machine.execPinChange line high s
  | .debounceExpiry line => Sys2Proof.Machine.execDebounceExpiry line s
  | .pulseExpiry line => Sys2Proof.Machine.execPulseExpiry line s
  | .frameLengthDiscard length => Sys2Proof.Machine.execFrameLengthDiscard length s

end Sys2Proof.Machine
end

