-- ==== Sys2Proof/Safety.lean ====
section
/-! DEFINITION. The terms in which statements about the block are made: when a request is served, which commands are
requests, and the invariants that every step keeps. -/

namespace Sys2Proof

/-- A request command's tag and length mark, and its kind (R192); none for a command that is no request. -/
def Instr.request : Instr → Option (Req × Byte)
  | .bind q _ _ _ => some (q, 0x01)
  | .unbind q _ _ => some (q, 0x02)
  | .setIntake q _ _ _ _ _ _ => some (q, 0x03)
  | .setSource q _ _ => some (q, 0x04)
  | .listSeen q _ => some (q, 0x05)
  | .setLayout q _ _ _ _ => some (q, 0x06)
  | .setFormat q _ _ => some (q, 0x07)
  | .setFader q _ _ _ => some (q, 0x08)
  | .setLimit q _ _ => some (q, 0x09)
  | .setTrim q _ _ _ => some (q, 0x0A)
  | .setMute q _ _ _ => some (q, 0x0B)
  | .loadPreset q _ _ _ _ => some (q, 0x0C)
  | .dropPreset q _ => some (q, 0x0D)
  | .selectPreset q _ _ => some (q, 0x0E)
  | .setMeter q _ _ _ => some (q, 0x0F)
  | .setAlarm q _ _ _ _ _ _ _ _ _ => some (q, 0x10)
  | .ackAlarm q _ _ _ => some (q, 0x11)
  | .setGuard q _ _ _ _ _ _ => some (q, 0x12)
  | .setClock q _ _ _ _ _ _ => some (q, 0x13)
  | .clock q _ _ _ => some (q, 0x14)
  | .setTrigger q _ _ _ _ _ => some (q, 0x15)
  | .readCapture q _ => some (q, 0x16)
  | .loadCue q _ _ _ _ _ => some (q, 0x17)
  | .dropCue q _ _ => some (q, 0x18)
  | .clearCues q _ => some (q, 0x19)
  | .fire q _ _ => some (q, 0x1A)
  | .fireActions q _ _ => some (q, 0x1B)
  | .setLine q _ _ => some (q, 0x1C)
  | .driveLine q _ _ _ => some (q, 0x1D)
  | .setPriority q _ _ => some (q, 0x1E)
  | .setAttention q _ _ => some (q, 0x1F)
  | .readEvents q _ => some (q, 0x20)
  | .releaseEvents q _ => some (q, 0x21)
  | .snapshot q _ _ => some (q, 0x22)
  | .readStats q _ => some (q, 0x23)
  | .hello q => some (q, 0x24)
  | .query q _ => some (q, 0x25)
  | .reset q => some (q, 0x26)
  | .screenReset q _ => some (q, 0x27)
  | .badKind _ _ => none
  | .controlFrame _ => none
  | .frameTimeout => none
  | .replyTransmit => none
  | .resetTakesEffect => none
  | .ready => none
  | .powerOn => none
  | .resetInputRelease => none
  | .audioPacket _ _ _ _ => none
  | .lostTimeout _ _ => none
  | .blockBoundary _ => none
  | .clockEnd _ => none
  | .wrap _ => none
  | .flywheelHold _ => none
  | .crossfadeComplete _ => none
  | .cutSwap _ => none
  | .cutComplete _ => none
  | .intervalClose _ => none
  | .raiseDwellExpiry _ _ => none
  | .clearDwellExpiry _ _ => none
  | .remind _ _ => none
  | .guardReduceStep _ => none
  | .guardReleaseStep _ => none
  | .pinChange _ _ => none
  | .debounceExpiry _ => none
  | .pulseExpiry _ => none
  | .frameLengthDiscard _ => none

/-- A screen field names a screen. -/
def isScreen (n : Nat) : Prop := 1 ≤ n ∧ n ≤ 8

/-- A cue number is 1 to 9,999 (R144). -/
def isCueNumber (n : Nat) : Prop := 1 ≤ n ∧ n ≤ 9999

/-- A condition's fields are in range (R144). -/
def RawCondition.inRange : RawCondition → Prop
  | .absent => True
  | .lineLevel line level => 1 ≤ line ∧ line ≤ 20 ∧ level ≤ 1
  | .format code => code ≤ 4
  | .playing slot => slot ≤ 1
  | .unknown _ => False

/-- The used fields of a line's configuration are in range (R168). -/
def RawLine.inRange : RawLine → Prop
  | .input debounce edge action screen cue =>
    1 ≤ debounce ∧ debounce ≤ 255 ∧ edge ≤ 2 ∧ action ≤ 5 ∧ (action ≠ 0 → isScreen screen) ∧
      (action = 5 → isCueNumber cue)
  | .output function screen alarm invert stop =>
    function ≤ 3 ∧ isScreen screen ∧ invert ≤ 1 ∧ (function = 0 → stop ≤ 2) ∧ (function = 1 → alarm ≤ 3)
  | .unknown _ => False

/-- The arguments of a request are in the ranges its rule gives; what its other checks find (a target that does not exist,
an unstable band, a bad action) is not asked here. -/
def Instr.inRange : Instr → Prop
  | .bind _ n slot id => isScreen n ∧ slot ≤ 1 ∧ id ≠ 0
  | .unbind _ n slot => isScreen n ∧ slot ≤ 1
  | .setIntake _ n start low high policy pacing =>
    isScreen n ∧ 2 ≤ start ∧ start ≤ 32 ∧ 1 ≤ low ∧ low < start ∧ start < high ∧ high ≤ 63 ∧ policy ≤ 2 ∧ pacing ≤ 1
  | .setSource _ n slot => isScreen n ∧ slot ≤ 1
  | .listSeen _ discovery => discovery ≤ 2
  | .setLayout _ n mask topology delay =>
    isScreen n ∧ topology ≤ 1 ∧ delay ≤ 40 ∧ mask.getLsbD 0 = true ∧ mask.getLsbD 2 = true ∧
      (topology = 0 → mask.getLsbD 6 = false ∧ mask.getLsbD 7 = false ∧ mask.getLsbD 4 = mask.getLsbD 5) ∧
      (topology = 1 → mask.getLsbD 4 = true ∧ mask.getLsbD 5 = true ∧ mask.getLsbD 6 = true ∧ mask.getLsbD 7 = true)
  | .setFormat _ n format => isScreen n ∧ (format ≤ 4 ∨ format = 0xFE)
  | .setFader _ n position ramp => isScreen n ∧ position ≤ 100 ∧ ramp ≤ 60000
  | .setLimit _ n position => isScreen n ∧ position ≤ 100
  | .setTrim _ n _ _ => isScreen n
  | .setMute _ n _ on => isScreen n ∧ on ≤ 1
  | .loadPreset _ slot mode mask buses =>
    1 ≤ slot ∧ slot ≤ 32 ∧ mode ≤ 1 ∧ mask ≠ 0 ∧ buses.length = maskCount mask ∧
      ∀ c ∈ buses, c.bands.length ≤ 16 ∧ -72 ≤ c.offset ∧ c.offset ≤ 24
  | .dropPreset _ slot => 1 ≤ slot ∧ slot ≤ 32
  | .selectPreset _ n preset => isScreen n ∧ preset ≤ 32
  | .setMeter _ n window _ => isScreen n ∧ 10 ≤ window ∧ window ≤ 6000
  | .setAlarm _ n kind threshold hysteresis raise clear latch interval count =>
    isScreen n ∧ kind ≤ 3 ∧ (kind = 0 → 0 ≤ threshold ∧ threshold ≤ 1500 ∧ 0 ≤ hysteresis ∧ hysteresis ≤ 200) ∧
      (kind = 1 → 1 ≤ threshold ∧ threshold ≤ 100) ∧ (kind = 2 → 0 ≤ threshold ∧ threshold ≤ 1500) ∧
      raise ≤ 600000 ∧ clear ≤ 600000 ∧ latch ≤ 1 ∧ 1 ≤ interval ∧ interval ≤ 600 ∧ count ≤ 15
  | .ackAlarm _ n kind bus => isScreen n ∧ kind ≤ 3 ∧ (kind = 1 ∨ kind = 2 → bus ≤ 7)
  | .setGuard _ n enable step interval floor release =>
    isScreen n ∧ enable ≤ 1 ∧ 1 ≤ step ∧ step ≤ 12 ∧ 91 ≤ interval ∧ interval ≤ 5000 ∧ -60 ≤ floor ∧ floor ≤ 0 ∧
      991 ≤ release ∧ release ≤ 60000
  | .setClock _ n mode length endMode pass flywheel =>
    isScreen n ∧ mode ≤ 1 ∧ length ≤ 4294967294 ∧ endMode ≤ 1 ∧ pass ≤ 2000 ∧ flywheel ≤ 10000
  | .clock _ n command position => isScreen n ∧ command ≤ 3 ∧ (command = 3 → position ≤ 4294967294)
  | .setTrigger _ n entry line edge position =>
    isScreen n ∧ entry ≤ 2 ∧ line ≤ 20 ∧ edge ≤ 2 ∧ (entry = 2 → position ≤ 4294967294)
  | .readCapture _ n => isScreen n
  | .loadCue _ n number time condition _ =>
    isScreen n ∧ isCueNumber number ∧ time ≤ 4294967294 ∧ condition.inRange
  | .dropCue _ n number => isScreen n ∧ isCueNumber number
  | .clearCues _ n => isScreen n
  | .fire _ n number => isScreen n ∧ isCueNumber number
  | .fireActions _ n _ => isScreen n
  | .setLine _ line fields => 1 ≤ line ∧ line ≤ 20 ∧ fields.inRange
  | .driveLine _ line operation width =>
    1 ≤ line ∧ line ≤ 20 ∧ operation ≤ 3 ∧ (operation = 3 → 10 ≤ width ∧ width ≤ 5000)
  | .setPriority _ kind priority => 1 ≤ kind ∧ kind ≤ 8 ∧ kind ≠ 2 ∧ priority ≤ 7
  | .setAttention _ threshold urgent =>
    (threshold = 1 ∨ threshold = 4 ∨ threshold = 16 ∨ threshold = 64) ∧ 1 ≤ urgent ∧ urgent ≤ 7
  | .readEvents _ n => 1 ≤ n ∧ n ≤ 16
  | .releaseEvents _ n => 1 ≤ n ∧ n ≤ 256
  | .snapshot _ scope clear => (isScreen scope ∨ scope = 0xFF) ∧ clear ≤ 1
  | .readStats _ scope => isScreen scope ∨ scope = 0xFE ∨ scope = 0xFF
  | .hello _ => True
  | .query _ n => isScreen n
  | .reset _ => True
  | .screenReset _ n => isScreen n
  | .badKind _ _ => True
  | .controlFrame _ => True
  | .frameTimeout => True
  | .replyTransmit => True
  | .resetTakesEffect => True
  | .ready => True
  | .powerOn => True
  | .resetInputRelease => True
  | .audioPacket _ _ _ _ => True
  | .lostTimeout _ _ => True
  | .blockBoundary _ => True
  | .clockEnd _ => True
  | .wrap _ => True
  | .flywheelHold _ => True
  | .crossfadeComplete _ => True
  | .cutSwap _ => True
  | .cutComplete _ => True
  | .intervalClose _ => True
  | .raiseDwellExpiry _ _ => True
  | .clearDwellExpiry _ _ => True
  | .remind _ _ => True
  | .guardReduceStep _ => True
  | .guardReleaseStep _ => True
  | .pinChange _ _ => True
  | .debounceExpiry _ => True
  | .pulseExpiry _ => True
  | .frameLengthDiscard _ => True

/-- The one screen whose blocks a command concerns, when its fields name one. -/
def Instr.onlyScreen : Instr → Option ScreenIx
  | .bind _ n _ _ => Machine.screenOf n
  | .unbind _ n _ => Machine.screenOf n
  | .setIntake _ n _ _ _ _ _ => Machine.screenOf n
  | .setSource _ n _ => Machine.screenOf n
  | .setLayout _ n _ _ _ => Machine.screenOf n
  | .setFormat _ n _ => Machine.screenOf n
  | .setFader _ n _ _ => Machine.screenOf n
  | .setLimit _ n _ => Machine.screenOf n
  | .setTrim _ n _ _ => Machine.screenOf n
  | .setMute _ n _ _ => Machine.screenOf n
  | .selectPreset _ n _ => Machine.screenOf n
  | .setMeter _ n _ _ => Machine.screenOf n
  | .setAlarm _ n _ _ _ _ _ _ _ _ => Machine.screenOf n
  | .ackAlarm _ n _ _ => Machine.screenOf n
  | .setGuard _ n _ _ _ _ _ => Machine.screenOf n
  | .setClock _ n _ _ _ _ _ => Machine.screenOf n
  | .clock _ n _ _ => Machine.screenOf n
  | .setTrigger _ n _ _ _ _ => Machine.screenOf n
  | .loadCue _ n _ _ _ _ => Machine.screenOf n
  | .dropCue _ n _ => Machine.screenOf n
  | .clearCues _ n => Machine.screenOf n
  | .fire _ n _ => Machine.screenOf n
  | .fireActions _ n _ => Machine.screenOf n
  | .screenReset _ n => Machine.screenOf n
  | .lostTimeout i _ => some i
  | .blockBoundary i => some i
  | .clockEnd i => some i
  | .wrap i => some i
  | .flywheelHold i => some i
  | .crossfadeComplete i => some i
  | .cutSwap i => some i
  | .cutComplete i => some i
  | .intervalClose i => some i
  | .raiseDwellExpiry i _ => some i
  | .clearDwellExpiry i _ => some i
  | .remind i _ => some i
  | .guardReduceStep i => some i
  | .guardReleaseStep i => some i
  | .readCapture _ _ => none
  | .query _ _ => none
  | .listSeen _ _ => none
  | .loadPreset _ _ _ _ _ => none
  | .dropPreset _ _ => none
  | .setLine _ _ _ => none
  | .driveLine _ _ _ _ => none
  | .setPriority _ _ _ => none
  | .setAttention _ _ _ => none
  | .readEvents _ _ => none
  | .releaseEvents _ _ => none
  | .snapshot _ _ _ => none
  | .readStats _ _ => none
  | .hello _ => none
  | .reset _ => none
  | .badKind _ _ => none
  | .controlFrame _ => none
  | .frameTimeout => none
  | .replyTransmit => none
  | .resetTakesEffect => none
  | .ready => none
  | .powerOn => none
  | .resetInputRelease => none
  | .audioPacket _ _ _ _ => none
  | .pinChange _ _ => none
  | .debounceExpiry _ => none
  | .pulseExpiry _ => none
  | .frameLengthDiscard _ => none

/-- Commands that reach the blocks of more than one screen: the resets of the part, a SNAPSHOT of ALL, an input's edge, and
a packet, whose screen is the one its stream ID is bound to. -/
def Instr.reachesScreens : Instr → Prop
  | .snapshot _ _ _ => True
  | .resetTakesEffect => True
  | .powerOn => True
  | .resetInputRelease => True
  | .audioPacket _ _ _ _ => True
  | .debounceExpiry _ => True
  | _ => False

end Sys2Proof

namespace Sys2Proof.Machine

/-! ### Service -/

/-- The port hands the request `c` to service now (R194 to R196, R198): it accepts requests, its reply path holds fewer than
15 frames, and `c` is the oldest request, or the only one. -/
def Serving (c : Instr) (s : State) : Prop :=
  s.port.phase = .accepting ∧ s.port.path.length < 15 ∧
    (s.port.holding = [] ∨ ∃ f rest, s.port.holding = f :: rest ∧ requestOfFrame f = c)

/-- A request of the right length that is served now. -/
def Served (q : Req) (c : Instr) (s : State) : Prop := q.lengthOk = true ∧ Serving c s

/-- A run is safe as far as a state when every step from it goes on: the block neither stops nor refuses. -/
def Safe (s : State) : Prop := ∃ t, step s = .next t

/-! ### Invariants -/

/-- The event queue: at most 256 records, a lost count of 16 bits (R179, R181). -/
def QueueInv (s : State) : Prop := s.queue.records.length ≤ 256 ∧ s.queue.lost ≤ 65535

/-- The control port: at most four frames held, at most 16 on the reply path; the sixteenth is there only while an attention
is outstanding, and before READY only an ATTENTION notice can be there (R194 to R196). -/
def PortInv (s : State) : Prop :=
  s.port.holding.length ≤ 4 ∧ s.port.path.length ≤ 16 ∧ (s.port.path.length = 16 → s.queue.attention = true) ∧
    (s.port.phase = .starting → s.port.path.length ≤ 1 ∧ (s.port.path.length = 1 → s.queue.attention = true))

/-- The intake of a screen: only the selected slot plays, and only a playing slot is holding (R15, R18). -/
def Intake.Inv (k : Intake) : Prop :=
  ∀ l, ((k.slot l).state = .playing → l = k.selection) ∧ ((k.slot l).holding = true → (k.slot l).state = .playing)

/-- The binding table: a stream ID is held by at most one of the 16 slots (R6). -/
def BoundOnce (s : State) : Prop :=
  ∀ i l j m, (s.slot i l).streamId ≠ none → (s.slot i l).streamId = (s.slot j m).streamId → i = j ∧ l = m

/-- The buffer of a slot: at most 64 blocks, in ascending order of their distances from the expected sequence, each distance
from 0 to 63, so no two of one sequence; the expected sequence is unset just in EMPTY and WAITING, where nothing is held
(R8). -/
def Slot.BufferInv (x : Slot) : Prop :=
  (x.expected = none ↔ x.state = .empty ∨ x.state = .waiting) ∧
    match x.expected with
    | none => x.buffer = []
    | some e =>
      x.buffer.length ≤ 64 ∧ (∀ b ∈ x.buffer, (b.seq - e).toNat ≤ 63) ∧
        x.buffer.Pairwise (fun a b => (a.seq - e).toNat < (b.seq - e).toNat)

/-- The seen list: at most eight entries, of different streams (R4). -/
def SeenInv (s : State) : Prop := s.seen.length ≤ 8 ∧ (s.seen.map SeenEntry.streamId).Nodup

/-- The decoder of a screen: both steering values between -60 and 0 (R43). -/
def Decoder.Inv (d : Decoder) : Prop := -60 ≤ d.centre ∧ d.centre ≤ 0 ∧ -60 ≤ d.surround ∧ d.surround ≤ 0

/-- The gain stage of a screen: the fader's target is the gain of its target position, which is at or below the limit
position, and the current gain is at or below the gain of the limit position (R50). -/
def Gain.Inv (g : Gain) : Prop :=
  g.faderPosition ≤ g.limit ∧ g.limit ≤ 100 ∧ g.fader.target = faderGain g.faderPosition ∧
    g.fader.current ≤ faderGain g.limit

/-- The meters of a screen: fewer than ten boundaries since the last close, no window longer than its length, and a total
window length of at least ten intervals (R90 to R92, R95, R97). -/
def Meters.Inv (m : Meters) : Prop :=
  m.boundaryCount ≤ 9 ∧ 10 ≤ m.window ∧ m.ring.length ≤ m.window ∧
    ∀ b : Fin 8, m.busWindows[b].length ≤ 100 ∧ m.clipHistories[b].length ≤ 100

/-- The guard of a screen: its value lies between its floor and 0 (section 6.6). -/
def GuardBlock.Inv (g : GuardBlock) : Prop := -60 ≤ g.floor ∧ g.floor ≤ g.value ∧ g.value ≤ 0

/-- The clock of a screen: with a length, the position never exceeds it (R130). -/
def Clock.Inv (c : Clock) : Prop := c.length ≠ 0 → c.position ≤ c.length

/-- The cue lists: each in ascending order of time and number with no number twice, and no more entries together than the
pool has (R144). -/
def CuesInv (s : State) : Prop :=
  (∀ i, ((s.scr i).cues.Pairwise (fun a b => a.before b = true)) ∧ ((s.scr i).cues.map CueEntry.number).Nodup) ∧
    ((List.finRange 8).map (fun i => (s.scr i).cues.length)).sum ≤ 1024

/-- The band pool: the screens together hold at most 640 bands, and a cut in its fade-out has reserved what its target
needs beyond the active preset (R71, R80). -/
def BandInv (s : State) : Prop :=
  s.bandsHeldInAll ≤ 640 ∧
    ∀ i, (s.scr i).equaliser.switch = .cut → (s.scr i).equaliser.phase = some .fadeOut →
      s.requirement i ((s.scr i).equaliser.incoming.getD none) ≤
        s.requirement i (s.scr i).equaliser.active + (s.scr i).equaliser.delta

/-- A contact line: an input has no pulse, and its debounce timer runs just while its raw level differs from its level; a
pulse is on a CUE output that is ON; an output has no debounce timer (section 9.1, R172, R175). -/
def Line.Inv (x : Line) : Prop :=
  match x.config with
  | .input _ _ _ => x.pulse = none ∧ (x.debounceTimer.isSome = true ↔ x.raw ≠ x.level)
  | .output (.cue _ _) _ => x.debounceTimer = none ∧ (x.pulse.isSome = true → x.level = true)
  | .output _ _ => x.debounceTimer = none ∧ x.pulse = none

/-! ### Pure readings of rules, for statements -/

/-- The PACE_GO a holding slot sends when its holding ends (R15); none for a slot that is not holding. -/
def Slot.paceGo (x : Slot) : List EthernetFrame :=
  match x.holding, x.source, x.streamId with
  | true, some dest, some id =>
    [{ dest := dest, etherType := 0x88B5, payload := 0x02 :: u32 id.toNat ++ List.replicate 41 0 }]
  | _, _, _ => []

/-- The PACE_HOLD of a slot with the hold count given (R14). -/
def Slot.paceHold (x : Slot) (count : Nat) : List EthernetFrame :=
  match x.source, x.streamId with
  | some dest, some id =>
    [{ dest := dest, etherType := 0x88B5, payload := 0x01 :: u32 id.toNat ++ u16 count ++ List.replicate 39 0 }]
  | _, _ => []

/-- The table of R134: a clock after a command. -/
def Clock.after (k : ClockCommand) (c : Clock) : Clock :=
  match k, c.state with
  | .start, .stopped => { c with state := .running, flywheelCount := 0 }
  | .start, .running => c
  | .start, .held => { c with state := .running, flywheelCount := 0 }
  | .stop, _ => { c with state := .stopped }
  | .hold, .stopped => c
  | .hold, .running => { c with state := .held }
  | .hold, .held => c
  | .reload p, _ =>
    let p := if c.length = 0 then p else min p c.length
    if p = c.position then c else { c with position := p, mark := true }

/-- The clock after its trigger entries that match an edge of a line, in the order START, STOP, RELOAD (R139). -/
def Clock.afterTriggers (l : LineIx) (rising : Bool) (c : Clock) : Clock :=
  let hit (t : Trigger) : Prop :=
    t.line = some l ∧ (t.edge = .both ∨ (t.edge = .rising ∧ rising = true) ∨ (t.edge = .falling ∧ rising = false))
  let c1 := if hit c.startTrigger then c.after .start else c
  let c2 := if hit c.stopTrigger then c1.after .stop else c1
  if hit c.reloadTrigger then c2.after (.reload c.reloadPosition) else c2

/-- The clock of a screen after a line's action that names the screen (R139, R140). -/
def Clock.afterAction (i : ScreenIx) (a : LineAction) (c : Clock) : Clock :=
  match a with
  | .start j => if j = i then c.after .start else c
  | .stop j => if j = i then c.after .stop else c
  | .reload j => if j = i then c.after (.reload c.reloadPosition) else c
  | .capture j => if j = i then { c with capturePrevious := c.captureCurrent, captureCurrent := some c.position } else c
  | _ => c

/-- The immediate slot of a screen after an edge: filled by a FIRE that is taken (R163). -/
def Screen.slotAfter (i : ScreenIx) (l : LineIx) (a : LineAction) (c : Screen) : Immediate :=
  match a with
  | .fire j n =>
    if j = i ∧ c.immediate = .empty ∧ ∃ e ∈ c.cues, e.number = n then .cue n (.contact l) else c.immediate
  | _ => c.immediate

/-- Screen i's clock takes a command from a cause (its two bytes, R200): the table of R134, the one CLOCK record of a change
(R135), whose show position is the position after it (log 14), and on the entry into STOPPED the stop policy (R174). A
command that changes nothing does nothing. -/
def State.commanded (s : State) (i : ScreenIx) (k : ClockCommand) (cause : List Byte) : State :=
  let c := (s.scr i).clock
  let c' := c.after k
  if c' = c then s
  else
    let states : List Byte := [BitVec.ofNat 8 c.state.code, BitVec.ofNat 8 c'.state.code]
    let moved : State := { s with screens := s.screens.set i { s.scr i with clock := c' } }
    let posted :=
      match k with
      | .reload _ => moved.postAt .clockReload (some i) (some c'.position) (states ++ cause ++ u32 c.position)
      | _ => moved.postAt .clockState (some i) (some c'.position) (states ++ cause)
    if c.state ≠ .stopped ∧ c'.state = .stopped then { posted with lines := s.lines.map (Line.stopFor i) } else posted

/-- A trigger entry names the edge of a line (R139). -/
def Trigger.hit (t : Trigger) (l : LineIx) (rising : Bool) : Bool :=
  decide (t.line = some l ∧ (t.edge = .both ∨ (t.edge = .rising ∧ rising = true) ∨ (t.edge = .falling ∧ rising = false)))

/-- Screen i's matching trigger entries, in the order START, STOP, RELOAD, each with cause CONTACT (R139). -/
def State.triggered (l : LineIx) (rising : Bool) (s : State) (i : ScreenIx) : State :=
  let c := (s.scr i).clock
  let cause : List Byte := [0x02, BitVec.ofNat 8 (l.val + 1)]
  let started := if c.startTrigger.hit l rising then s.commanded i .start cause else s
  let stopped := if c.stopTrigger.hit l rising then started.commanded i .stop cause else started
  if c.reloadTrigger.hit l rising then stopped.commanded i (.reload c.reloadPosition) cause else stopped

/-- What a recognised edge of line l does, when its action is a: the named screen carries the action and its own trigger
entries out; the CONTACT EDGE record is posted, with the line, the edge, the action, the cue number and whether a FIRE was
not taken, and with the position captured for CAPTURE and the position after the edge for another action; then the other
screens' trigger entries, in ascending order (R139, R140, R163, R176, R177; logs 14 and 20). -/
def State.edgeTaken (s : State) (l : LineIx) (rising : Bool) (a : LineAction) : State :=
  let cause : List Byte := [0x02, BitVec.ofNat 8 (l.val + 1)]
  let named : Option ScreenIx × Byte × Nat :=
    match a with
    | .none => (none, 0, 0xFFFF)
    | .start i => (some i, 1, 0xFFFF)
    | .stop i => (some i, 2, 0xFFFF)
    | .reload i => (some i, 3, 0xFFFF)
    | .capture i => (some i, 4, 0xFFFF)
    | .fire i n => (some i, 5, n)
  let acted : State :=
    match a with
    | .none => s
    | .start i => s.commanded i .start cause
    | .stop i => s.commanded i .stop cause
    | .reload i => s.commanded i (.reload (s.scr i).clock.reloadPosition) cause
    | .capture i => { s with screens := s.screens.set i { s.scr i with clock := (s.scr i).clock.afterAction i a } }
    | .fire i _ => { s with screens := s.screens.set i { s.scr i with immediate := (s.scr i).slotAfter i l a } }
  let notTaken : Bool :=
    match a with
    | .fire i n => decide (¬ ((s.scr i).immediate = .empty ∧ ∃ e ∈ (s.scr i).cues, e.number = n))
    | _ => false
  let detail : List Byte :=
    [BitVec.ofNat 8 (l.val + 1), if rising then 0 else 1, named.2.1] ++ u16 named.2.2 ++ [if notTaken then 1 else 0]
  let posted : State :=
    match named.1 with
    | none => acted.postAt .contactEdge none none detail
    | some i =>
      let t := State.triggered l rising acted i
      t.postAt .contactEdge (some i)
        (some (match a with | .capture _ => (s.scr i).clock.position | _ => (t.scr i).clock.position)) detail
  ((List.finRange 8).filter (fun i => decide (named.1 ≠ some i))).foldl (State.triggered l rising) posted

/-- The table of R76 for an IDLE screen: the state in which the target's switch has started, the state as it is for the
active preset, and none for a target that the pool cannot take (R75, R77, R80). -/
def State.presetStarted (s : State) (i : ScreenIx) (target : Target) : Option State :=
  let e := (s.scr i).equaliser
  let g := (s.scr i).gain
  let old := s.requirement i e.active
  let new := s.requirement i target
  let put (c : Screen) : State := { s with screens := s.screens.set i c }
  let fresh : Vector (List BandHistory) 8 :=
    Vector.ofFn (fun b : Fin 8 =>
      if (s.scr i).decoder.mask.getLsbD b.val then
        List.replicate (s.contents target b).bands.length { x1 := 0, x2 := 0, y1 := 0, y2 := 0 }
      else [])
  if target = e.active then some s
  else if new ≤ s.bandsFree then
    some (put { s.scr i with
      equaliser := { e with switch := .crossfade, incoming := some target, count := 0, inChains := fresh } })
  else if new ≤ s.bandsFree + old then
    some (put { s.scr i with
      equaliser := { e with switch := .cut, incoming := some target, phase := some .fadeOut, delta := new - old },
      gain := { g with switchTerm := { g.switchTerm with target := -480 } } })
  else none

/-- A selection that is not a request, on an IDLE screen: started by the table of R76, or PRESET REFUSED posted with the
target, its requirement and the free count (R83 to R85). -/
def State.presetTried (s : State) (i : ScreenIx) (target : Target) : State :=
  (s.presetStarted i target).getD
    (s.postAt .presetRefused (some i) (some (s.scr i).clock.position)
      (targetField target ++ u16 (s.requirement i target) ++ u16 s.bandsFree))

/-- A completion posts PRESET DONE with its method, the preset left and the one now active, the bands the screen holds and
the free count, and then decides a pending target on the state it left (R83, R85). -/
def State.presetCompleted (s : State) (i : ScreenIx) (method : Byte) (left : Target) : State :=
  let posted :=
    s.postAt .presetDone (some i) (some (s.scr i).clock.position)
      (method :: targetField left ++ targetField (s.scr i).equaliser.active ++ u16 (s.bandsHeld i) ++ u16 s.bandsFree)
  match (s.scr i).equaliser.waiting with
  | none => posted
  | some target =>
    State.presetTried
      { posted with
        screens := posted.screens.set i { posted.scr i with equaliser := { (posted.scr i).equaliser with waiting := none } } }
      i target

/-- How a movement may leave an entry (R149 to R152): an entry it does not reach as it was; one it reaches FIRED, PASSED or
SKIPPED, and without a condition PASSED when its time is at or below new less the pass window, else FIRED. -/
def CueEntry.leaves (m : Movement) (window : Nat) (e e' : CueEntry) : Prop :=
  if e.state = .armed ∧ m.old < e.time ∧ e.time ≤ m.new then
    (e' = { e with state := .fired } ∨ e' = { e with state := .passed } ∨ e' = { e with state := .skipped }) ∧
      (e.condition = none → e' = { e with state := if e.time + window ≤ m.new then .passed else .fired })
  else e' = e

/-- An instance after a number of closes at which its condition is true. -/
def Alarm.afterCloses (set : AlarmSettings) : Nat → Alarm → Alarm
  | 0, x => x
  | n + 1, x => Alarm.afterCloses set n (x.move set true).alarm

end Sys2Proof.Machine
end

