-- ==== Sys2Proof/Certificates/Slice0/Obligations.lean ====
section
/-! DEFINITION. The statements for the provers. Each docstring names the rules of spec/ it formalises; a clause that is the
model's own choice names the log entry. A reply is written as the frame placed last on the reply path: tag, kind plus 0x40,
and the payload, whose first byte is the status (R192). -/

section

open Sys2Proof Sys2Proof.Machine

/-! ### The block and its queue -/

/-- A step carries out the command at the front of the queue, with the queue's rest. With no command waiting it lets one
millisecond of part time pass, which is the model's choice (log 2). -/
def Obligations.StepTakesFrontCommand : Prop :=
  (∀ (s : State) (c : Instr) (rest : List Instr), s.pending = c :: rest → step s = exec c { s with pending := rest }) ∧
  (∀ s : State, s.pending = [] → step s = .next { s with time := s.time + 1 })

/-- Every command, in every state, is carried out: the block never stops and never refuses; a command leaves the commands
still waiting as they are, and only adds at the end of the frames and pace messages sent (model: logs 4 and 9). -/
def Obligations.EveryCommandCompletes : Prop :=
  (∀ (c : Instr) (s : State), ∃ t, exec c s = .next t ∧ t.pending = s.pending) ∧
  (∀ s : State, Safe s) ∧
  (∀ (c : Instr) (s t : State), exec c s = .next t → s.controlOut <+: t.controlOut ∧ s.paceOut <+: t.paceOut)

/-! ### Requests -/

/-- The payload encodings of R200: reading back the frame that asks for a well-formed request gives that request, for all
39 request kinds, every field at every value its encoding has. The widths of the fields that the field encodings leave to a
reading are those of log 15. -/
def Obligations.RequestRoundTrip : Prop :=
  ∀ (c : Instr) (f : Frame), c.wf = true → frameOf c = some f → requestOfFrame f = c

/-- A served request whose payload has a wrong length is answered BAD_ARG by the port, and changes nothing but its leaving
the holding area; a served frame of kind 0x00 or of 0x28 to 0xFF is answered BAD_KIND, with reply kind 0x40 when the kind is
0x40 or above and kind plus 0x40 otherwise (R194). That LOAD_CUE and FIRE_ACTIONS then carry index 0 is the model's choice
(log 22). A request that the port does not hand to service now changes nothing (R195, R198; model: log 4). -/
def Obligations.PortAnswersByItself : Prop :=
  (∀ (c : Instr) (q : Req) (kind : Byte) (s : State),
    c.request = some (q, kind) → q.lengthOk = false → Serving c s →
      exec c s = .next (s.beginService.pushPath
        { tag := q.tag, kind := kind + 0x40, payload := if kind = 0x17 ∨ kind = 0x1B then [0x02, 0x00] else [0x02] })) ∧
  (∀ (c : Instr) (q : Req) (kind : Byte) (s : State), c.request = some (q, kind) → ¬ Serving c s → exec c s = .next s) ∧
  (∀ (s : State) (tag kind : Byte),
    kind = 0 ∨ 0x28 ≤ kind.toNat → Serving (.badKind tag kind) s →
      exec (.badKind tag kind) s = .next (s.beginService.pushPath
        { tag := tag, kind := if 0x40 ≤ kind.toNat then 0x40 else kind + 0x40, payload := [0x03] }))

/-- A served request one of whose arguments is out of the range its rule gives is refused BAD_ARG, and changes nothing but
its leaving the holding area; LOAD_CUE and FIRE_ACTIONS carry index 0 (R6, R7, R16, R17, R25, R28, R32, R50, R52, R53, R55,
R67, R69, R76, R97, R114, R115, R126, R136 to R138, R140, R145, R148, R161, R168, R173, R182, R183, R184, R186, R188, R189,
R197, R199). That the index is 0 when a field outside the actions and an action both fail, and for FIRE_ACTIONS with a bad
screen, is the model's choice (log 22). -/
def Obligations.OutOfRangeIsRefused : Prop :=
  ∀ (c : Instr) (q : Req) (kind : Byte) (s : State),
    c.request = some (q, kind) → ¬ c.inRange → Served q c s →
      exec c s = .next (s.beginService.pushPath
        { tag := q.tag, kind := kind + 0x40, payload := if kind = 0x17 ∨ kind = 0x1B then [0x02, 0x00] else [0x02] })

/-! ### The control port -/

/-- A valid frame that arrives while the receiver hunts joins the holding area at the newest end, with its own tag, kind and
payload, when fewer than four are held; when four are held it is answered BUSY at once, or counts as discarded when the
reply path has no room below its fifteenth place or RESET has been served (R192 to R195, R198). Before READY bytes are
ignored. That the BUSY reply's kind wraps in its byte for kinds of 0xC0 and above is log 26, and that the command carries the
bytes that arrive is log 32. -/
def Obligations.ValidFrameIsHeldOrBusy : Prop :=
  (∀ (s : State) (f : Frame),
    s.port.phase ≠ .starting → s.port.received = [] → f.payload.length ≤ 1024 → s.port.holding.length < 4 →
      exec (.controlFrame (frameBytes f)) s =
        .next { s with port := { s.port with lastByte := s.time, holding := s.port.holding ++ [f] } }) ∧
  (∀ (s : State) (f : Frame),
    s.port.phase ≠ .starting → s.port.received = [] → f.payload.length ≤ 1024 → s.port.holding.length = 4 →
      exec (.controlFrame (frameBytes f)) s =
        .next
          (if s.port.phase = .accepting ∧ s.port.path.length < 14 then
            { s with port :=
                { s.port with
                  lastByte := s.time,
                  path := s.port.path ++ [{ tag := f.tag, kind := f.kind + 0x40, payload := [0x01] }] } }
          else
            { s with
              port := { s.port with lastByte := s.time },
              partLive := { s.partLive with framesDiscarded := min (s.partLive.framesDiscarded + 1) 4294967295 } })) ∧
  (∀ (s : State) (bytes : List Byte), s.port.phase = .starting → exec (.controlFrame bytes) s = .next s)

/-- A frame whose check does not match is discarded, counted once and not answered; when no SYNC stands behind its own, the
receiver hunts on with nothing in hand. A length above 1,024 discards the frame at once and counts it; 50 ms without a byte
discard the frame in progress and count it After a discard by check or length, hunting resumes with the byte that followed
the SYNC, whatever stands behind it (R193). That the timeout waits for its command is the model's choice (log 3), and that
FRAME_LENGTH_DISCARD is the arrival of a SYNC and two length bytes at one part time is log 32. -/
def Obligations.BadFramesAreDiscarded : Prop :=
  (∀ (s : State) (tag kind c0 c1 : Byte) (payload : List Byte),
    s.port.phase ≠ .starting → s.port.received = [] → payload.length ≤ 1024 →
    (∀ b ∈ u16 payload.length ++ [tag, kind] ++ payload ++ [c0, c1], b ≠ 0xA5) →
    crc16 (u16 payload.length ++ [tag, kind] ++ payload) ≠ c0 ++ c1 →
      exec (.controlFrame ([0xA5] ++ u16 payload.length ++ [tag, kind] ++ payload ++ [c0, c1])) s =
        .next { s with
          port := { s.port with lastByte := s.time },
          partLive := { s.partLive with framesDiscarded := min (s.partLive.framesDiscarded + 1) 4294967295 } }) ∧
  (∀ (s : State) (hi lo : Byte),
    s.port.phase ≠ .starting → s.port.received = [] → hi ≠ 0xA5 → lo ≠ 0xA5 → 1024 < (hi ++ lo).toNat →
      exec (.frameLengthDiscard (hi ++ lo)) s =
        .next { s with
          port := { s.port with lastByte := s.time },
          partLive := { s.partLive with framesDiscarded := min (s.partLive.framesDiscarded + 1) 4294967295 } }) ∧
  (∀ s : State,
    s.port.phase ≠ .starting → s.port.received ≠ [] → 50 ≤ (s.time - s.port.lastByte).toNat →
      exec .frameTimeout s =
        .next { s with
          port := { s.port with received := [] },
          partLive := { s.partLive with framesDiscarded := min (s.partLive.framesDiscarded + 1) 4294967295 } }) ∧
  (∀ s : State, s.port.phase ≠ .starting → s.port.received = [] →
    let counted : State :=
      { s with
        partLive := { s.partLive with framesDiscarded := min (s.partLive.framesDiscarded + 1) 4294967295 } }
    (∀ (tag kind c0 c1 : Byte) (payload : List Byte),
      payload.length ≤ 1024 → crc16 (u16 payload.length ++ [tag, kind] ++ payload) ≠ c0 ++ c1 →
        let behind := u16 payload.length ++ [tag, kind] ++ payload ++ [c0, c1]
        exec (.controlFrame (0xA5 :: behind)) s = exec (.controlFrame behind) counted) ∧
    (∀ length : BitVec 16, 1024 < length.toNat →
      exec (.frameLengthDiscard length) s = exec (.controlFrame (u16 length.toNat)) counted))

/-- The reply path sends its oldest frame, whole; READY is sent once, when the port begins accepting, after what stands on
the path (R195, R196). -/
def Obligations.PathSendsOldestAndReadyOnce : Prop :=
  (∀ (s : State) (f : Frame) (rest : List Frame), s.port.path = f :: rest →
    exec .replyTransmit s =
      .next { s with port := { s.port with path := rest }, controlOut := s.controlOut ++ [frameBytes f] }) ∧
  (∀ s : State, s.port.phase = .starting →
    exec .ready s =
      .next { s with port :=
        { s.port with phase := .accepting, received := [],
                      path := s.port.path ++ [{ tag := 0, kind := 0xC0, payload := [] }] } }) ∧
  (∀ s : State, s.port.phase ≠ .starting → exec .ready s = .next s)

/-- RESET places its OK reply and stops service; once that reply has been sent the part resets: PACE_GO for every holding
slot, the held frames gone, every block at its power-on values, the library kept; until then nothing happens (R198, R26).
Power-on and the release of the reset input have the same effect without the reply, PACE_GO for every holding slot included,
and empty the library; what was sent, the pins and the waiting commands lie outside the part (R198; logs 9 and 25). The pin
a line reads is log 8, the order of the PACE_GO messages log 36 and their bytes log 30. -/
def Obligations.ResetsOfThePart : Prop :=
  (∀ (s : State) (q : Req), Served q (.reset q) s →
    exec (.reset q) s =
      .next { s with port :=
        { s.port with phase := .resetServed, holding := s.port.holding.tail,
                      path := s.port.path ++ [{ tag := q.tag, kind := 0x66, payload := [0x00] }] } }) ∧
  (∀ s : State, s.port.phase = .resetServed → (∀ f ∈ s.port.path, ¬ (f.kind = 0x66 ∧ f.payload = [0x00])) →
    exec .resetTakesEffect s =
      .next { State.reset with
        library := s.library, lines := s.lines.map (fun x => Line.reset x.pin), controlOut := s.controlOut,
        paceOut := s.paceOut ++
          (List.finRange 8).flatMap (fun i => (s.slot i .a).paceGo ++ (s.slot i .b).paceGo),
        pending := s.pending }) ∧
  (∀ s : State, (∃ f ∈ s.port.path, f.kind = 0x66 ∧ f.payload = [0x00]) → exec .resetTakesEffect s = .next s) ∧
  (∀ s : State,
    exec .powerOn s =
      .next { State.reset with
        lines := s.lines.map (fun x => Line.reset x.pin), controlOut := s.controlOut,
        paceOut := s.paceOut ++
          (List.finRange 8).flatMap (fun i => (s.slot i .a).paceGo ++ (s.slot i .b).paceGo),
        pending := s.pending } ∧
    exec .resetInputRelease s = exec .powerOn s)

/-- SCREEN_RESET returns each block of one screen to its starting state, keeping what its rules keep, applies the stop policy
of the screen's CUE lines, posts no record, and leaves every other screen, the library, the queue and the part counters as
they are (R199, R27, R46, R65, R86, R101, R119, R127, R143, R167, R191). That slot A's PACE_GO comes before slot
B's is log 36, and the bytes of the message log 30. -/
def Obligations.ScreenResetRestartsOneScreen : Prop :=
  ∀ (s : State) (q : Req) (i : ScreenIx), Served q (.screenReset q (i.val + 1)) s →
    ∃ t, exec (.screenReset q (i.val + 1)) s = .next t ∧
      (∀ l, (t.scr i).intake.slot l =
        match ((s.scr i).intake.slot l).streamId with
        | none => Slot.reset
        | some id => { Slot.reset with state := .waiting, streamId := some id }) ∧
      (t.scr i).intake.selection = .a ∧ (t.scr i).intake.staged = .a ∧ (t.scr i).intake.lastTaken = none ∧
      (t.scr i).intake.followingReal = false ∧ (t.scr i).intake.start = (s.scr i).intake.start ∧
      (t.scr i).intake.low = (s.scr i).intake.low ∧ (t.scr i).intake.high = (s.scr i).intake.high ∧
      (t.scr i).intake.policy = (s.scr i).intake.policy ∧ (t.scr i).intake.pacing = (s.scr i).intake.pacing ∧
      (t.scr i).decoder =
        { (s.scr i).decoder with inForce := none, centre := 0, surround := 0, line := List.replicate 41 zeroBlock } ∧
      (t.scr i).gain = { Gain.reset with trims := (s.scr i).gain.trims } ∧
      (t.scr i).equaliser = Equaliser.reset ∧
      (t.scr i).meters =
        { Meters.reset with window := (s.scr i).meters.window, calibration := (s.scr i).meters.calibration } ∧
      (∀ id, (t.scr i).alarms.get id = Alarm.reset) ∧
      (∀ k, (t.scr i).alarms.settings k = (s.scr i).alarms.settings k) ∧
      (t.scr i).guard =
        { (s.scr i).guard with value := 0, stepTimer := (s.scr i).guard.interval / 10, releaseCount := 0,
                               direction := .none } ∧
      (t.scr i).clock =
        { (s.scr i).clock with state := .stopped, position := 0, evaluated := 0, mark := false, flywheelCount := 0,
                               captureCurrent := none, capturePrevious := none } ∧
      (t.scr i).cues = (s.scr i).cues.map (fun e => { e with state := .armed }) ∧
      (t.scr i).immediate = .empty ∧ (t.scr i).live = Counters.zero ∧ (t.scr i).shadow = (s.scr i).shadow ∧
      (t.scr i).snapshot = (s.scr i).snapshot ∧ (t.scr i).lane = (s.scr i).lane ∧
      (∀ j, j ≠ i → t.scr j = s.scr j) ∧
      (∀ l, t.line l = Line.stopFor i (s.line l)) ∧
      t.paceOut = s.paceOut ++ (s.slot i .a).paceGo ++ (s.slot i .b).paceGo ∧
      t.port = { s.port with
        holding := s.port.holding.tail,
        path := s.port.path ++ [{ tag := q.tag, kind := 0x67, payload := [0x00] }] } ∧
      t.time = s.time ∧ t.seen = s.seen ∧ t.discovery = s.discovery ∧ t.library = s.library ∧ t.queue = s.queue ∧
      t.partLive = s.partLive ∧ t.partShadow = s.partShadow ∧ t.partSnapshot = s.partSnapshot ∧
      t.controlOut = s.controlOut

/-! ### The event queue and statistics -/

/-- R180 and R181: a record of priority 0 changes nothing; one of a higher priority is admitted at the newest end, carrying
the lost count, which returns to 0, just when the fill is below 256 and either below 224 or the priority is 5 or more; else
it raises the lost count, which stays at 65,535. Each kind has its own priority, and GUARD that of ALARM. -/
def Obligations.AdmissionFollowsPriority : Prop :=
  ∀ (s : State) (what : EventType) (screen : Option ScreenIx) (position : Option Nat) (detail : List Byte),
    (s.queue.priorities.of .guardDown = s.queue.priorities.alarm ∧
      s.queue.priorities.of .guardUp = s.queue.priorities.alarm) ∧
    s.queue.priorities.of what =
      (match what with
        | .alarmRaised | .alarmCleared | .alarmLatched | .alarmRemind | .alarmAcked => s.queue.priorities.alarm
        | .guardDown | .guardUp => s.queue.priorities.alarm
        | .streamSeen | .streamState | .streamFailover => s.queue.priorities.stream
        | .decodeFormat => s.queue.priorities.decode
        | .presetDone | .presetReplaced | .presetRefused => s.queue.priorities.preset
        | .cueFired | .cuePassed | .cueSkipped | .cueFault | .cueMark => s.queue.priorities.cue
        | .clockState | .clockEnd | .clockHeld | .clockReload | .clockWrap => s.queue.priorities.clock
        | .contactEdge => s.queue.priorities.contact) ∧
    (s.queue.priorities.of what = 0 → s.postAt what screen position detail = s) ∧
    (0 < s.queue.priorities.of what → s.queue.records.length < 256 →
      (s.queue.records.length < 224 ∨ 5 ≤ s.queue.priorities.of what) →
        (s.postAt what screen position detail).queue.records = s.queue.records ++
            [{ what := what, screen := screen, time := s.time, position := position, lost := s.queue.lost,
               detail := detail }] ∧
          (s.postAt what screen position detail).queue.lost = 0) ∧
    (0 < s.queue.priorities.of what →
      ¬ (s.queue.records.length < 256 ∧ (s.queue.records.length < 224 ∨ 5 ≤ s.queue.priorities.of what)) →
        s.postAt what screen position detail =
          { s with queue := { s.queue with lost := if s.queue.lost < 65535 then s.queue.lost + 1 else 65535 } })

/-- R185: an admitted record sends the ATTENTION notice, placed last on the reply path, and marks attention outstanding, just
when none was outstanding and the fill after admission reaches the threshold or the priority the urgent level. -/
def Obligations.AttentionOncePerRead : Prop :=
  ∀ (s : State) (what : EventType) (screen : Option ScreenIx) (position : Option Nat) (detail : List Byte),
    0 < s.queue.priorities.of what → s.queue.records.length < 256 →
    (s.queue.records.length < 224 ∨ 5 ≤ s.queue.priorities.of what) →
      if s.queue.attention = false ∧
          (s.queue.threshold ≤ s.queue.records.length + 1 ∨ s.queue.urgent ≤ s.queue.priorities.of what) then
        (s.postAt what screen position detail).queue.attention = true ∧
          (s.postAt what screen position detail).port.path =
            s.port.path ++ [{ tag := 0, kind := 0xC1, payload := [] }]
      else
        (s.postAt what screen position detail).queue.attention = s.queue.attention ∧
          (s.postAt what screen position detail).port.path = s.port.path

/-- SET_PRIORITY sets one kind of the seven and replies all seven; GUARD (2) and any other kind, or a priority above 7, is
refused BAD_ARG. SET_ATTENTION sets both settings in their ranges, else is refused BAD_ARG. Queued records, the lost count
and the attention flag stay (R182, R186). That no number stands before the seven priorities is log 16. -/
def Obligations.QueueSettings : Prop :=
  (∀ (s : State) (q : Req) (kind priority : Nat), Served q (.setPriority q kind priority) s →
    let p := s.queue.priorities
    let p' : Priorities :=
      { alarm := if kind = 1 then priority else p.alarm, stream := if kind = 3 then priority else p.stream,
        decode := if kind = 4 then priority else p.decode, preset := if kind = 5 then priority else p.preset,
        cue := if kind = 6 then priority else p.cue, clock := if kind = 7 then priority else p.clock,
        contact := if kind = 8 then priority else p.contact }
    exec (.setPriority q kind priority) s =
      .next
        (if 1 ≤ kind ∧ kind ≤ 8 ∧ kind ≠ 2 ∧ priority ≤ 7 then
          ({ s.beginService with queue := { s.queue with priorities := p' } }).pushPath
            { tag := q.tag, kind := 0x5E,
              payload := 0x00 :: [p'.alarm, p'.stream, p'.decode, p'.preset, p'.cue, p'.clock, p'.contact].map
                (BitVec.ofNat 8) }
        else s.beginService.pushPath { tag := q.tag, kind := 0x5E, payload := [0x02] })) ∧
  (∀ (s : State) (q : Req) (threshold urgent : Nat), Served q (.setAttention q threshold urgent) s →
    exec (.setAttention q threshold urgent) s =
      .next
        (if threshold ∈ [1, 4, 16, 64] ∧ 1 ≤ urgent ∧ urgent ≤ 7 then
          ({ s.beginService with queue := { s.queue with threshold := threshold, urgent := urgent } }).pushPath
            { tag := q.tag, kind := 0x5F, payload := [0x00, BitVec.ofNat 8 threshold, BitVec.ofNat 8 urgent] }
        else s.beginService.pushPath { tag := q.tag, kind := 0x5F, payload := [0x02] }))

/-- READ_EVENTS (n), n from 1 to 16, leaves the records in place, ends any outstanding attention, and replies the fill, the
pending lost count and the min(n, fill) oldest records, preceded by their number (R183). RELEASE_EVENTS (n), n from 1 to
256, removes the min(n, fill) oldest records and replies the number removed and the fill after; it ends no attention (R184).
For each, another n is refused BAD_ARG. A record is sent as its layout says: kind, sub-kind, screen, whether a lost count is
present, part time, show position, lost count, and the detail behind its length (R200). The two bytes of the fill, the lost
count and the number removed are log 15, and the number before the records log 16. -/
def Obligations.ReadAndReleaseEvents : Prop :=
  (∀ (s : State) (q : Req) (n : Nat), Served q (.readEvents q n) s →
    exec (.readEvents q n) s =
      .next
        (if 1 ≤ n ∧ n ≤ 16 then
          ({ s.beginService with queue := { s.queue with attention := false } }).pushPath
            { tag := q.tag, kind := 0x60,
              payload := 0x00 :: u16 s.queue.records.length ++ u16 s.queue.lost ++
                BitVec.ofNat 8 (min n s.queue.records.length) :: (s.queue.records.take n).flatMap EventRecord.bytes }
        else s.beginService.pushPath { tag := q.tag, kind := 0x60, payload := [0x02] })) ∧
  (∀ (s : State) (q : Req) (n : Nat), Served q (.releaseEvents q n) s →
    exec (.releaseEvents q n) s =
      .next
        (if 1 ≤ n ∧ n ≤ 256 then
          ({ s.beginService with queue := { s.queue with records := s.queue.records.drop n } }).pushPath
            { tag := q.tag, kind := 0x61,
              payload := 0x00 :: u16 (min n s.queue.records.length) ++
                u16 (s.queue.records.length - min n s.queue.records.length) }
        else s.beginService.pushPath { tag := q.tag, kind := 0x61, payload := [0x02] })) ∧
  (∀ r : EventRecord,
    let code : Byte × Byte :=
      match r.what with
      | .alarmRaised => (1, 1) | .alarmCleared => (1, 2) | .alarmLatched => (1, 3) | .alarmRemind => (1, 4)
      | .alarmAcked => (1, 5)
      | .guardDown => (2, 1) | .guardUp => (2, 2)
      | .streamSeen => (3, 1) | .streamState => (3, 2) | .streamFailover => (3, 3)
      | .decodeFormat => (4, 1)
      | .presetDone => (5, 1) | .presetReplaced => (5, 2) | .presetRefused => (5, 3)
      | .cueFired => (6, 1) | .cuePassed => (6, 2) | .cueSkipped => (6, 3) | .cueFault => (6, 4) | .cueMark => (6, 5)
      | .clockState => (7, 1) | .clockEnd => (7, 2) | .clockHeld => (7, 3) | .clockReload => (7, 4)
      | .clockWrap => (7, 5)
      | .contactEdge => (8, 1)
    r.bytes =
      [code.1, code.2, match r.screen with | none => 0 | some i => BitVec.ofNat 8 (i.val + 1),
        if r.lost = 0 then 0 else 1] ++
      u32 r.time.toNat ++ u32 (r.position.getD 4294967295) ++ u16 r.lost ++ BitVec.ofNat 8 r.detail.length :: r.detail)

/-- SNAPSHOT of a screen copies its eleven counters, of ALL (255) every counter of the part, in one step: each shadow takes
its live value, each live value becomes 0 if clear is on, and the snapshot times become the part time; READ_STATS replies the
snapshot time and shadow counters of a screen, of the part, or of all in order, and changes nothing (R188, R189; that ALL's
screens carry their number first is log 16). -/
def Obligations.SnapshotCopiesInOneStep : Prop :=
  (∀ (s : State) (q : Req) (i : ScreenIx) (clear : Bool), Served q (.snapshot q (i.val + 1) (boolCode clear)) s →
    let c : Screen :=
      { s.scr i with shadow := (s.scr i).live, live := if clear then Counters.zero else (s.scr i).live,
                     snapshot := some s.time }
    exec (.snapshot q (i.val + 1) (boolCode clear)) s =
      .next (({ s.beginService with screens := s.screens.set i c }).pushPath
        { tag := q.tag, kind := 0x62, payload := [0x00, BitVec.ofNat 8 (i.val + 1), 0x01] ++ u32 s.time.toNat })) ∧
  (∀ (s : State) (q : Req) (clear : Bool), Served q (.snapshot q 255 (boolCode clear)) s →
    ∃ t, exec (.snapshot q 255 (boolCode clear)) s = .next t ∧
      (∀ i, t.scr i =
        { s.scr i with shadow := (s.scr i).live, live := if clear then Counters.zero else (s.scr i).live,
                       snapshot := some s.time }) ∧
      t.partShadow = s.partLive ∧ t.partLive = (if clear then PartCounters.zero else s.partLive) ∧
      t.partSnapshot = some s.time ∧
      t = { s with
        screens := t.screens, partShadow := t.partShadow, partLive := t.partLive, partSnapshot := t.partSnapshot,
        port := { s.port with
          holding := s.port.holding.tail,
          path := s.port.path ++
            [{ tag := q.tag, kind := 0x62, payload := [0x00, 0xFF, 0x01] ++ u32 s.time.toNat }] } }) ∧
  (∀ (s : State) (q : Req),
    let screen (i : ScreenIx) : List Byte :=
      optTimeField (s.scr i).snapshot ++
        [(s.scr i).shadow.packetsAccepted, (s.scr i).shadow.late, (s.scr i).shadow.duplicate, (s.scr i).shadow.resyncs,
          (s.scr i).shadow.blocksConcealed, (s.scr i).shadow.underruns, (s.scr i).shadow.failovers,
          (s.scr i).shadow.clipBlocks, (s.scr i).shadow.cuesFired, (s.scr i).shadow.cuesPassed,
          (s.scr i).shadow.alarmRaises].flatMap u32
    let part : List Byte :=
      optTimeField s.partSnapshot ++
        [s.partShadow.framesDiscarded, s.partShadow.packetsUnmatched, s.partShadow.packetsMalformed].flatMap u32
    let answered (fields : List Byte) : State :=
      s.beginService.pushPath { tag := q.tag, kind := 0x63, payload := 0x00 :: fields }
    (∀ i : ScreenIx, Served q (.readStats q (i.val + 1)) s →
      exec (.readStats q (i.val + 1)) s = .next (answered (screen i))) ∧
    (Served q (.readStats q 0xFE) s → exec (.readStats q 0xFE) s = .next (answered part)) ∧
    (Served q (.readStats q 0xFF) s →
      exec (.readStats q 0xFF) s = .next (answered (0x08 :: (List.finRange 8).flatMap screen ++ part))))

/-- HELLO replies the vendor name, the part name, the silicon revision and the seven capacities; QUERY replies the screen's
state as its blocks hold it, in the order of R197: the slots and selections, the layout, formats and steering, the presets
and the pool, the gain terms, the meter readings (R99), the alarm instances and the guard, the clock and its triggers,
whether the immediate slot is occupied, and the lines; neither changes anything but the port (R197). The widths rest on log
15, the numbers before lists on log 16, the pairs of offsets, mutes and levels on log 37. -/
def Obligations.HelloAndQueryOnlyRead : Prop :=
  (∀ (s : State) (q : Req), Served q (.hello q) s →
    exec (.hello q) s =
      .next (s.beginService.pushPath
        { tag := q.tag, kind := 0x64,
          payload := [0x00, 6, 0x49, 0x76, 0x65, 0x72, 0x74, 0x65,
            12, 0x4A, 0x61, 0x72, 0x74, 0x65, 0x67, 0x61, 0x20, 0x4A, 0x41, 0x2D, 0x38, Config.siliconRevision,
            0x00, 0x08, 0x00, 0x10, 0x02, 0x80, 0x00, 0x20, 0x04, 0x00, 0x00, 0x14, 0x01, 0x00] })) ∧
  (∀ (s : State) (q : Req) (i : ScreenIx), Served q (.query q (i.val + 1)) s →
    let c := s.scr i
    let d := c.decoder
    let e := c.equaliser
    let g := c.gain
    let m := c.meters
    let k := c.clock
    let byte (n : Nat) : Byte := BitVec.ofNat 8 n
    let buses (f : Bus → List Byte) : List Byte := 0x08 :: (List.finRange 8).flatMap f
    let slot (x : Slot) : List Byte :=
      byte x.state.code :: u16 x.buffer.length ++ u32 (x.streamId.getD 0xFFFFFFFF).toNat ++
        u16 (x.expected.getD 0xFFFF).toNat ++ beBytes 6 (x.source.getD 0xFFFFFFFFFFFF).toNat
    let preset (t : Target) : List Byte := u16 (match t with | none => 0 | some p => p.val + 1)
    let optional (t : Option Target) : List Byte := match t with | none => [0xFF, 0xFF] | some t => preset t
    let offset (b : Bus) : Int :=
      let old := (s.contents e.active b).offset
      match e.switch with
      | .crossfade => ((32 - (e.count : Int)) * old + e.count * (s.contents (e.incoming.getD none) b).offset) / 32
      | _ => old
    let alarm (x : Alarm) : List Byte := [byte x.state.code, byte (boolCode x.acknowledged)]
    let trigger (t : Trigger) : List Byte := [byte (match t.line with | none => 0 | some l => l.val + 1), byte t.edge.code]
    exec (.query q (i.val + 1)) s =
      .next (s.beginService.pushPath
        { tag := q.tag, kind := 0x65,
          payload := 0x00 ::
            slot c.intake.slotA ++ slot c.intake.slotB ++ [byte c.intake.selection.code, byte c.intake.staged.code] ++
            ([d.mask, byte d.topology.code] ++ u16 d.delay ++
              [byte (match d.forced with | none => 0xFE | some f => f.code),
                byte (match d.inForce with | none => 0xFF | some f => f.code)] ++ s16 d.centre ++ s16 d.surround) ++
            (preset e.active ++ optional e.incoming ++ optional e.waiting ++
              [byte e.switch.code, match e.phase with | none => 0xFF | some .fadeOut => 0 | some .fadeIn => 1] ++
              u16 e.count ++ u16 (s.bandsHeld i) ++ u16 s.bandsFree ++ buses (fun b => s16 (offset b))) ++
            (byte g.faderPosition :: s16 g.fader.target ++ s16 g.fader.current ++ [byte g.limit] ++
              buses (fun b => s16 g.trims[b]) ++ buses (fun b => s16 g.offsets[b].current ++ s16 g.offsets[b].target) ++
              buses (fun b => s16 g.mutes[b].target ++ s16 g.mutes[b].current) ++ s16 g.switchTerm.current ++
              s16 g.switchTerm.target) ++
            (s16 m.totalLevel ++ s16 (m.totalLevel + m.calibration) ++ u16 m.totalIntervals ++
              buses (fun b => s16 m.busLevels[b] ++ s16 (m.busLevels[b] + m.calibration)) ++
              buses (fun b => u16 m.clipCounts[b]) ++ u16 m.window ++ s16 m.calibration) ++
            (18 :: alarm c.alarms.overLevel ++ (List.finRange 8).flatMap (fun b => alarm c.alarms.clip[b]) ++
              (List.finRange 8).flatMap (fun b => alarm c.alarms.silence[b]) ++ alarm c.alarms.stream) ++
            (s16 c.guard.value ++ [byte c.guard.direction.code, byte (boolCode c.guard.enabled), byte c.guard.step] ++
              u32 c.guard.interval ++ s16 c.guard.floor ++ u32 c.guard.release) ++
            (byte k.state.code :: u32 k.position ++ [byte k.mode.code] ++ u32 k.length ++ [byte k.endMode.code] ++
              u32 k.passWindow ++ u32 k.flywheelLimit ++ u16 k.flywheelCount ++ trigger k.startTrigger ++
              trigger k.stopTrigger ++ trigger k.reloadTrigger ++ u32 k.reloadPosition) ++
            [if c.immediate = .empty then 0 else 1] ++
            20 :: (List.finRange 20).flatMap
              (fun l => [byte (boolCode (s.lineLevel l)), byte (boolCode (s.line l).pulse.isSome)]) }))

/-! ### Contact lines -/

/-- An accepted SET_LINE replaces the line's configuration and brings it to a fresh start: an output's level is OFF, an
input's raw level and level are the pin's, no pulse and no debounce timer; no record is posted and no other line is touched
(R168, R169). A FOLLOW line's level is then that of the state it follows (R171, log 19). The fields of the request name a
configuration by the codes and ranges of R168, unused fields neither checked nor kept. A line reads the level of its pin,
its CUE level or what its FOLLOW function gives, and an output's pin that level with the inversion last (R170, R171); that a
FOLLOW_STREAM line stays ON at a gap is log 42. The fields of the reply are the reading of log 15, and the pin's level is
the model's own field (log 8). -/
def Obligations.SetLineStartsFresh : Prop :=
  (∀ (s : State) (q : Req) (l : LineIx) (fields : RawLine) (c : LineConfig),
    lineConfigOf fields = some c → Served q (.setLine q (l.val + 1) fields) s →
      ∃ t, exec (.setLine q (l.val + 1) fields) s = .next t ∧
        t.line l =
          (match c with
            | .input _ _ _ =>
              { config := c, level := (s.line l).pin, pulse := none, raw := (s.line l).pin, debounceTimer := none,
                pin := (s.line l).pin }
            | .output _ _ =>
              { config := c, level := false, pulse := none, raw := (s.line l).raw, debounceTimer := none,
                pin := (s.line l).pin }) ∧
        t.lineLevel l =
          (match c with
            | .input _ _ _ => (s.line l).pin
            | .output (.cue _ _) _ => false
            | .output (.followAlarm i k) _ => (s.scr i).alarms.anyStands k
            | .output (.followClock i) _ => decide ((s.scr i).clock.state = .running)
            | .output (.followStream i) _ => decide ((s.slot i (s.scr i).intake.selection).state = .playing)) ∧
        (∀ m, m ≠ l → t.line m = s.line m) ∧
        t = { s with
          lines := t.lines,
          port := { s.port with
            holding := s.port.holding.tail,
            path := s.port.path ++
              [{ tag := q.tag, kind := 0x5C,
                 payload := 0x00 :: c.fields ++ [BitVec.ofNat 8 (boolCode (t.lineLevel l))] }] } }) ∧
  (∀ debounce edge action screen cue : Nat,
    let i : ScreenIx := Fin.ofNat 8 (screen - 1)
    lineConfigOf (.input debounce edge action screen cue) =
      if 1 ≤ debounce ∧ debounce ≤ 255 ∧ edge ≤ 2 ∧ action ≤ 5 ∧ (action ≠ 0 → 1 ≤ screen ∧ screen ≤ 8) ∧
        (action = 5 → 1 ≤ cue ∧ cue ≤ 9999)
      then
        some (.input debounce (if edge = 0 then .rising else if edge = 1 then .falling else .both)
          (if action = 0 then .none else if action = 1 then .start i else if action = 2 then .stop i
          else if action = 3 then .reload i else if action = 4 then .capture i else .fire i cue))
      else none) ∧
  (∀ function screen alarm invert stop direction : Nat,
    let i : ScreenIx := Fin.ofNat 8 (screen - 1)
    lineConfigOf (.output function screen alarm invert stop) =
      (if function ≤ 3 ∧ 1 ≤ screen ∧ screen ≤ 8 ∧ invert ≤ 1 ∧ (function = 1 → alarm ≤ 3) ∧ (function = 0 → stop ≤ 2)
      then
        some (.output
          (if function = 0 then
            .cue i (if stop = 0 then .retain else if stop = 1 then .forceOff else .forceOn)
          else if function = 1 then
            .followAlarm i
              (if alarm = 0 then .overLevel else if alarm = 1 then .clip else if alarm = 2 then .silence else .stream)
          else if function = 2 then .followClock i else .followStream i)
          (decide (invert = 1)))
      else none) ∧
    lineConfigOf (.unknown direction) = none) ∧
  (∀ (s : State) (l : LineIx),
    (s.lineLevel l = true ↔
      match (s.line l).config with
      | .input _ _ _ => (s.line l).level = true
      | .output (.cue _ _) _ => (s.line l).level = true
      | .output (.followAlarm i k) _ =>
        ∃ id : AlarmId, id.kind = k ∧ ((s.scr i).alarms.get id).state ∈ [.raised, .clearing, .latched]
      | .output (.followClock i) _ => (s.scr i).clock.state = .running
      | .output (.followStream i) _ => (s.slot i (s.scr i).intake.selection).state = .playing) ∧
    s.drivenPin l =
      match (s.line l).config with
      | .input _ _ _ => none
      | .output _ invert => some (decide (s.lineLevel l ≠ invert)))

/-- R172 and R173: DRIVE_LINE on a CUE output carries out SET, CLEAR, TOGGLE or PULSE on the level and pulse as they stand and
replies both; on any other line it is refused STATE; a line outside 1 to 20, another operation, or a PULSE with a width
outside 10 to 5,000 is refused BAD_ARG. -/
def Obligations.DriveLineOperates : Prop :=
  ∀ (s : State) (q : Req) (line operation width : Nat), Served q (.driveLine q line operation width) s →
    exec (.driveLine q line operation width) s =
      .next
        (if h : 1 ≤ line ∧ line ≤ 20 then
          let l : LineIx := ⟨line - 1, by omega⟩
          let x := s.line l
          let after (level : Bool) (pulse : Option PartTime) : State :=
            if x.cueScreen.isSome then
              ({ s.beginService with lines := s.lines.set l { x with level := level, pulse := pulse } }).pushPath
                { tag := q.tag, kind := 0x5D,
                  payload := [0x00, BitVec.ofNat 8 (boolCode level), BitVec.ofNat 8 (boolCode pulse.isSome)] }
            else s.beginService.pushPath { tag := q.tag, kind := 0x5D, payload := [0x08] }
          if operation = 0 then after true none
          else if operation = 1 then after false none
          else if operation = 2 then after (if x.pulse.isSome then false else !x.level) none
          else if operation = 3 ∧ 10 ≤ width ∧ width ≤ 5000 then after true (some (s.time + BitVec.ofNat 32 width))
          else s.beginService.pushPath { tag := q.tag, kind := 0x5D, payload := [0x02] }
        else s.beginService.pushPath { tag := q.tag, kind := 0x5D, payload := [0x02] })

/-- A change of an input's pin sets the raw level; a raw level that differs from the level sets the debounce timer to the
debounce from now, one that equals it makes the timer absent; the level does not move and nothing else changes (R175). For
an output only the outside level is noted (log 33). A pulse whose end is reached turns its CUE line OFF (R172). That a time
counts as reached when at most half the 32-bit range lies between it and now, and that an expiry waits for its command, is
log 3. -/
def Obligations.PinChangeAndPulseExpiry : Prop :=
  (∀ (s : State) (l : LineIx) (high : Bool) (debounce : Nat) (e : EdgeSelect) (a : LineAction),
    (s.line l).config = .input debounce e a → (s.line l).raw ≠ high →
      let x : Line :=
        { s.line l with
          pin := high, raw := high,
          debounceTimer := if high ≠ (s.line l).level then some (s.time + BitVec.ofNat 32 debounce) else none }
      exec (.pinChange l high) s = .next { s with lines := s.lines.set l x }) ∧
  (∀ (s : State) (l : LineIx) (high : Bool),
    ((s.line l).raw = high ∨ ∃ f v, (s.line l).config = .output f v) →
      exec (.pinChange l high) s = .next { s with lines := s.lines.set l { s.line l with pin := high } }) ∧
  (∀ (s : State) (l : LineIx) (i : ScreenIx) (stop : StopPolicy) (invert : Bool) (ends : PartTime),
    (s.line l).config = .output (.cue i stop) invert → (s.line l).pulse = some ends →
    (s.time - ends).toNat < 2 ^ 31 →
      exec (.pulseExpiry l) s =
        .next { s with lines := s.lines.set l { s.line l with level := false, pulse := none } })

/-- When the debounce timer of an input is due, the level takes the raw level. A recognised edge is carried out by the named
screen's action and by every screen's matching trigger entries, each clock by the table of R134 with its CLOCK record (cause
CONTACT) and, on the entry into STOPPED, the stop policy of its CUE lines; the CONTACT EDGE record stands after the named
screen's records; an edge that is not recognised changes the level only (R135, R139, R140, R163, R174 to R177). The whole next
state is the reading `State.edgeTaken`. The order of the other screens is log 20, the records' details log 14, and that the
expiry waits for its command log 3. -/
def Obligations.EdgeReachesItsScreens : Prop :=
  ∀ (s : State) (l : LineIx) (debounce : Nat) (e : EdgeSelect) (a : LineAction) (expires : PartTime),
    (s.line l).config = .input debounce e a → (s.line l).debounceTimer = some expires →
    (s.time - expires).toNat < 2 ^ 31 → (s.line l).raw ≠ (s.line l).level →
      let settled : State :=
        { s with lines := s.lines.set l { s.line l with level := (s.line l).raw, debounceTimer := none } }
      if e = .both ∨ (e = .rising ∧ (s.line l).raw = true) ∨ (e = .falling ∧ (s.line l).raw = false) then
        ∃ t, exec (.debounceExpiry l) s = .next t ∧ t = settled.edgeTaken l (s.line l).raw a ∧
          (t.line l).level = (s.line l).raw ∧ (t.line l).debounceTimer = none ∧
          (∀ i, t.scr i =
            { s.scr i with
              clock := ((s.scr i).clock.afterAction i a).afterTriggers l (s.line l).raw,
              immediate := (s.scr i).slotAfter i l a }) ∧
          (∀ m, m ≠ l → t.line m = s.line m ∨ ∃ i, t.line m = Line.stopFor i (s.line m)) ∧
          t = { s with screens := t.screens, lines := t.lines, queue := t.queue,
                       port := { s.port with path := t.port.path } }
      else exec (.debounceExpiry l) s = .next settled

/-! ### Show clocks -/

/-- R134 to R136: CLOCK carries START, STOP, HOLD or RELOAD out by the table of R134. A command that changes nothing posts
nothing; one that changes the clock posts one CLOCK record with the states before and after and cause REQUEST, RELOAD with
the position before it; the reply carries the state and the position. A command outside the four, or a RELOAD to the absent
position, is refused BAD_ARG. The codes are START 0, STOP 1, HOLD 2 and RELOAD 3. R174: on the clock's entry into STOPPED a
CUE output of its screen under RETAIN is left as it is, FORCE_OFF and FORCE_ON cancel the pulse and turn it OFF and ON;
other lines are not touched. That the record's detail does not repeat the position after the change is log 14, and that the
record and its notice stand before the reply log 13. -/
def Obligations.ClockCommandByTable : Prop :=
  (∀ (s : State) (q : Req) (i : ScreenIx) (command position : Nat), Served q (.clock q (i.val + 1) command position) s →
    let c := (s.scr i).clock
    match clockCommandOf command position with
    | none =>
      exec (.clock q (i.val + 1) command position) s =
        .next (s.beginService.pushPath { tag := q.tag, kind := 0x54, payload := [0x02] })
    | some k =>
      let c' := c.after k
      let moved := { s.beginService with screens := s.screens.set i { s.scr i with clock := c' } }
      let posted :=
        if c' = c then moved
        else
          moved.postAt (match k with | .reload _ => .clockReload | _ => .clockState) (some i) (some c'.position)
            ([BitVec.ofNat 8 c.state.code, BitVec.ofNat 8 c'.state.code, 0x00, 0x00] ++
              (match k with | .reload _ => u32 c.position | _ => []))
      let stopped :=
        if c.state ≠ .stopped ∧ c'.state = .stopped then { posted with lines := s.lines.map (Line.stopFor i) } else posted
      exec (.clock q (i.val + 1) command position) s =
        .next (stopped.pushPath
          { tag := q.tag, kind := 0x54, payload := [0x00, BitVec.ofNat 8 c'.state.code] ++ u32 c'.position })) ∧
  (∀ (i : ScreenIx) (x : Line),
    Line.stopFor i x =
      match x.config with
      | .output (.cue j .forceOff) _ => if j = i then { x with level := false, pulse := none } else x
      | .output (.cue j .forceOn) _ => if j = i then { x with level := true, pulse := none } else x
      | _ => x) ∧
  (∀ command position : Nat,
    clockCommandOf command position =
      if command = 0 then some .start else if command = 1 then some .stop else if command = 2 then some .hold
      else if command = 3 ∧ position < 4294967295 then some (.reload position) else none)

/-- SET_CLOCK replaces the five settings, sets a position above a length that is not 0 to it with the reload mark, lowers the
flywheel count to the limit, posts nothing and leaves the state; SET_TRIGGER replaces one entry; READ_CAPTURE reads the
capture pair (R137, R138, R140). The fields of the first two replies and their order are log 31. -/
def Obligations.ClockSettings : Prop :=
  (∀ (s : State) (q : Req) (i : ScreenIx) (mode : ClockMode) (endMode : EndMode) (length pass flywheel : Nat),
    length ≤ 4294967294 → pass ≤ 2000 → flywheel ≤ 10000 →
    Served q (.setClock q (i.val + 1) mode.code length endMode.code pass flywheel) s →
      let c := (s.scr i).clock
      let c' : Clock :=
        { c with mode := mode, length := length, endMode := endMode, passWindow := pass, flywheelLimit := flywheel,
                 flywheelCount := min c.flywheelCount flywheel,
                 position := if length ≠ 0 ∧ length < c.position then length else c.position,
                 mark := if length ≠ 0 ∧ length < c.position then true else c.mark }
      exec (.setClock q (i.val + 1) mode.code length endMode.code pass flywheel) s =
        .next (({ s.beginService with screens := s.screens.set i { s.scr i with clock := c' } }).pushPath
          { tag := q.tag, kind := 0x53,
            payload := [0x00, BitVec.ofNat 8 mode.code] ++ u32 length ++ [BitVec.ofNat 8 endMode.code] ++ u32 pass ++
              u32 flywheel ++ [BitVec.ofNat 8 c.state.code] ++ u32 c'.position })) ∧
  (∀ (s : State) (q : Req) (i : ScreenIx) (entry line position : Nat) (l : Option LineIx) (e : EdgeSelect),
    lineOrNoneOf line = some l → entry < 3 → (entry = 2 → position < 4294967295) →
    Served q (.setTrigger q (i.val + 1) entry line e.code position) s →
      let c := (s.scr i).clock
      let c' : Clock :=
        { c with startTrigger := if entry = 0 then { line := l, edge := e } else c.startTrigger,
                 stopTrigger := if entry = 1 then { line := l, edge := e } else c.stopTrigger,
                 reloadTrigger := if entry = 2 then { line := l, edge := e } else c.reloadTrigger,
                 reloadPosition := if entry = 2 then position else c.reloadPosition }
      exec (.setTrigger q (i.val + 1) entry line e.code position) s =
        .next (({ s.beginService with screens := s.screens.set i { s.scr i with clock := c' } }).pushPath
          { tag := q.tag, kind := 0x55,
            payload := [0x00, BitVec.ofNat 8 entry, BitVec.ofNat 8 line, BitVec.ofNat 8 e.code] ++
              (if entry = 2 then u32 position else []) })) ∧
  (∀ (s : State) (q : Req) (i : ScreenIx), Served q (.readCapture q (i.val + 1)) s →
    exec (.readCapture q (i.val + 1)) s =
      .next (s.beginService.pushPath
        { tag := q.tag, kind := 0x56,
          payload := 0x00 :: u32 ((s.scr i).clock.captureCurrent.getD 4294967295) ++
            u32 ((s.scr i).clock.capturePrevious.getD 4294967295) }))

/-! ### Cues -/

/-- The checks of the actions of a LOAD_CUE or FIRE_ACTIONS, when there are 1 to 4: the refusal names the first action that
is out of range (check 1), or, when all are in range, the first whose target is not valid now (check 2); with neither, the
actions are accepted as they read (R145, R147); another number of actions gives index 0 (log 22). An action is in range by
the table of R147, a condition by R144, and a target is not valid now when a PRESET names an EMPTY slot or a LINE action a
line that is no CUE output of the screen. -/
def Obligations.FirstBadActionIsNamed : Prop :=
  (∀ (s : State) (i : ScreenIx) (raw : List RawAction), 1 ≤ raw.length → raw.length ≤ 4 →
    match s.checkActions i raw with
    | .ok l => raw.map actionOf = l.map some ∧ ∀ a ∈ l, s.actionFault i a = none
    | .error k =>
      ∃ before bad after, raw = before ++ bad :: after ∧ k = before.length + 1 ∧
        ((actionOf bad = none ∧ ∀ r ∈ before, actionOf r ≠ none) ∨
          ((∀ r ∈ raw, actionOf r ≠ none) ∧ (∃ a, actionOf bad = some a ∧ s.actionFault i a ≠ none) ∧
            ∀ r ∈ before, ∀ a, actionOf r = some a → s.actionFault i a = none))) ∧
  (∀ (s : State) (i : ScreenIx) (raw : List RawAction), raw.length = 0 ∨ 4 < raw.length →
    s.checkActions i raw = .error 0) ∧
  (∀ r : RawAction,
    let onLine (n : Nat) (a : LineIx → CueAction) : Option CueAction :=
      if 1 ≤ n ∧ n ≤ 20 then some (a (Fin.ofNat 20 (n - 1))) else none
    actionOf r =
      match r with
      | .fader position ramp => if position ≤ 100 ∧ ramp ≤ 60000 then some (.fader position ramp) else none
      | .offset mask gs ramp => if mask ≠ 0 ∧ ramp ≤ 60000 then some (.offset mask gs ramp) else none
      | .mute mask on => if mask ≠ 0 ∧ on ≤ 1 then some (.mute mask (decide (on = 1))) else none
      | .preset n =>
        if n = 0 then some (.preset none) else if n ≤ 32 then some (.preset (some (Fin.ofNat 32 (n - 1)))) else none
      | .format n =>
        if n = 0xFE then some (.format none) else if n = 0 then some (.format (some .mono))
        else if n = 1 then some (.format (some .stereo)) else if n = 2 then some (.format (some .matrix))
        else if n = 3 then some (.format (some .discrete6)) else if n = 4 then some (.format (some .discrete8)) else none
      | .source n => if n = 0 then some (.source .a) else if n = 1 then some (.source .b) else none
      | .lineSet n => onLine n .lineSet
      | .lineClear n => onLine n .lineClear
      | .lineToggle n => onLine n .lineToggle
      | .linePulse n width => if 10 ≤ width ∧ width ≤ 5000 then onLine n (fun l => .linePulse l width) else none
      | .clock command position =>
        if command = 0 then some (.clock .start) else if command = 1 then some (.clock .stop)
        else if command = 2 then some (.clock .hold)
        else if command = 3 ∧ position < 4294967295 then some (.clock (.reload position)) else none
      | .mark n => if n ≤ 65535 then some (.mark n) else none
      | .unknown _ => none) ∧
  (∀ r : RawCondition,
    conditionOf r =
      match r with
      | .absent => some none
      | .lineLevel n on =>
        if 1 ≤ n ∧ n ≤ 20 ∧ on ≤ 1 then some (some (.lineLevel (Fin.ofNat 20 (n - 1)) (decide (on = 1)))) else none
      | .format n =>
        if n = 0 then some (some (.format .mono)) else if n = 1 then some (some (.format .stereo))
        else if n = 2 then some (some (.format .matrix)) else if n = 3 then some (some (.format .discrete6))
        else if n = 4 then some (some (.format .discrete8)) else none
      | .playing n => if n = 0 then some (some (.playing .a)) else if n = 1 then some (some (.playing .b)) else none
      | .unknown _ => none) ∧
  (∀ (s : State) (i : ScreenIx) (a : CueAction),
    let onLine (l : LineIx) : Option CueFault :=
      match (s.line l).config with
      | .output (.cue j _) _ => if j = i then none else some .notCueLine
      | _ => some .notCueLine
    s.actionFault i a =
      match a with
      | .preset (some p) => if s.library[p] = none then some .emptyPreset else none
      | .lineSet l => onLine l
      | .lineClear l => onLine l
      | .lineToggle l => onLine l
      | .linePulse l _ => onLine l
      | _ => none)

/-- LOAD_CUE with valid fields and valid actions takes the place of the entry of its number, or joins the list when the pool
has a free entry; its state is ARMED just when its time is above the clock's position; the reply carries the number, the
state and the pool's free count. With no entry of the number and no free entry it is refused NO_SPACE; with an invalid
action it is refused BAD_ARG with the action's index (R145, R146). The one byte of the index and the two bytes of the free
count are log 15; index 0 for a number of actions outside 1 to 4 is log 22. -/
def Obligations.LoadCueSetsEntry : Prop :=
  ∀ (s : State) (q : Req) (i : ScreenIx) (number time : Nat) (condition : RawCondition) (actions : List RawAction)
    (c : Option Condition),
    1 ≤ number → number ≤ 9999 → time < 4294967295 → conditionOf condition = some c →
    Served q (.loadCue q (i.val + 1) number time condition actions) s →
      let command : Instr := .loadCue q (i.val + 1) number time condition actions
      match s.checkActions i actions with
      | .error k =>
        exec command s =
          .next (s.beginService.pushPath { tag := q.tag, kind := 0x57, payload := [0x02, BitVec.ofNat 8 k] })
      | .ok l =>
        if (∀ e ∈ (s.scr i).cues, e.number ≠ number) ∧ s.cuesFree = 0 then
          exec command s = .next (s.beginService.pushPath { tag := q.tag, kind := 0x57, payload := [0x04] })
        else
          ∃ t, exec command s = .next t ∧
            (∀ e, e ∈ (t.scr i).cues ↔
              e = { number := number, time := time, condition := c, actions := l,
                    state := if (s.scr i).clock.position < time then .armed else .passed } ∨
              (e ∈ (s.scr i).cues ∧ e.number ≠ number)) ∧
            t = ({ s.beginService with
                screens := s.screens.set i { s.scr i with cues := (t.scr i).cues } }).pushPath
              { tag := q.tag, kind := 0x57,
                payload := 0x00 :: u16 number ++
                  [if (s.scr i).clock.position < time then 0x00 else 0x02] ++ u16 t.cuesFree }

/-- DROP_CUE removes the entry of its number and replies its state and the free count, or is refused NOT_FOUND; CLEAR_CUES
removes every entry of the screen and replies how many; neither touches the immediate slot (R148). The two bytes of the number
removed and of the free count are log 15. -/
def Obligations.DropAndClearCues : Prop :=
  (∀ (s : State) (q : Req) (i : ScreenIx) (number : Nat), 1 ≤ number → number ≤ 9999 →
    Served q (.dropCue q (i.val + 1) number) s →
      let s' : State :=
        { s.beginService with
          screens := s.screens.set i { s.scr i with cues := (s.scr i).cues.filter (fun e => e.number ≠ number) } }
      exec (.dropCue q (i.val + 1) number) s =
        .next
          (match (s.scr i).cues.find? (fun e => e.number = number) with
            | some e =>
              s'.pushPath
                { tag := q.tag, kind := 0x58, payload := [0x00, BitVec.ofNat 8 e.state.code] ++ u16 s'.cuesFree }
            | none => s.beginService.pushPath { tag := q.tag, kind := 0x58, payload := [0x07] })) ∧
  (∀ (s : State) (q : Req) (i : ScreenIx), Served q (.clearCues q (i.val + 1)) s →
    exec (.clearCues q (i.val + 1)) s =
      .next (({ s.beginService with screens := s.screens.set i { s.scr i with cues := [] } }).pushPath
        { tag := q.tag, kind := 0x59, payload := 0x00 :: u16 (s.scr i).cues.length }))

/-- FIRE places a cue reference, and FIRE_ACTIONS an action set, in an EMPTY immediate slot with source REQUEST; FIRE of a
number the list does not hold is refused NOT_FOUND; either on an occupied slot is refused BUSY. FIRE_ACTIONS whose actions
fail a check is refused BAD_ARG with the index of the first that fails, whatever the slot holds (R161). The index has one byte
(log 15), and is 0 for a number of actions outside 1 to 4 (log 22). -/
def Obligations.FireFillsImmediateSlot : Prop :=
  (∀ (s : State) (q : Req) (i : ScreenIx) (number : Nat), 1 ≤ number → number ≤ 9999 →
    Served q (.fire q (i.val + 1) number) s →
      exec (.fire q (i.val + 1) number) s =
        .next
          (match (s.scr i).cues.find? (fun e => e.number = number) with
            | none => s.beginService.pushPath { tag := q.tag, kind := 0x5A, payload := [0x07] }
            | some e =>
              if (s.scr i).immediate = .empty then
                ({ s.beginService with
                    screens := s.screens.set i { s.scr i with immediate := .cue number .request } }).pushPath
                  { tag := q.tag, kind := 0x5A, payload := [0x00, BitVec.ofNat 8 e.state.code] }
              else s.beginService.pushPath { tag := q.tag, kind := 0x5A, payload := [0x01] })) ∧
  (∀ (s : State) (q : Req) (i : ScreenIx) (raw : List RawAction) (l : List CueAction), s.checkActions i raw = .ok l →
    Served q (.fireActions q (i.val + 1) raw) s →
      exec (.fireActions q (i.val + 1) raw) s =
        .next
          (if (s.scr i).immediate = .empty then
            ({ s.beginService with
                screens := s.screens.set i { s.scr i with immediate := .actions l .request } }).pushPath
              { tag := q.tag, kind := 0x5B, payload := [0x00] }
          else s.beginService.pushPath { tag := q.tag, kind := 0x5B, payload := [0x01] })) ∧
  (∀ (s : State) (q : Req) (i : ScreenIx) (raw : List RawAction) (k : Nat), s.checkActions i raw = .error k →
    Served q (.fireActions q (i.val + 1) raw) s →
      exec (.fireActions q (i.val + 1) raw) s =
        .next (s.beginService.pushPath { tag := q.tag, kind := 0x5B, payload := [0x02, BitVec.ofNat 8 k] })) ∧
  (∀ (s : State) (i : ScreenIx) (raw : List RawAction), raw.length = 0 ∨ 4 < raw.length →
    s.checkActions i raw = .error 0)

/-- The walk over a forward movement leaves every entry in its place; an ARMED entry whose time lies above old and at or
below new leaves ARMED by one of FIRED, PASSED and SKIPPED, without a condition by the pass window, and every other entry is
left as it was (R149 to R152). A backward movement arms again every entry whose time is above new, whatever its state, and
does nothing else; a movement with new equal to old changes nothing; on a wrap every entry becomes ARMED (R153). The walk of
a forward movement carries out the entries it reaches, in list order, each finished before the next starts (R149); a wrap is
that walk to the length and then the re-arming of every entry (R131, R153). -/
def Obligations.MovementReachesCues : Prop :=
  (∀ (s : State) (i : ScreenIx) (m : Movement),
    m.old < m.new → m.wrapped = false → ((s.scr i).cues.map CueEntry.number).Nodup →
      ((s.evaluateCues i m).scr i).cues.length = (s.scr i).cues.length ∧
        ∀ p ∈ (s.scr i).cues.zip ((s.evaluateCues i m).scr i).cues, p.1.leaves m (s.scr i).clock.passWindow p.2) ∧
  (∀ (s : State) (i : ScreenIx) (m : Movement),
    (m.new < m.old → m.wrapped = false →
      let c : Screen :=
        { s.scr i with
          cues := (s.scr i).cues.map (fun e => if m.new < e.time then { e with state := .armed } else e) }
      s.evaluateCues i m = { s with screens := s.screens.set i c }) ∧
    (m.new = m.old → m.wrapped = false → s.evaluateCues i m = s) ∧
    (m.wrapped = true → ∀ e ∈ ((s.evaluateCues i m).scr i).cues, e.state = .armed)) ∧
  (∀ (s : State) (i : ScreenIx) (m : Movement),
    (m.old < m.new → m.wrapped = false →
      let reached := (s.scr i).cues.filter (fun e => decide (e.state = .armed ∧ m.old < e.time ∧ e.time ≤ m.new))
      s.evaluateCues i m = reached.foldl (fun t e => t.reachCue i (s.scr i).clock.passWindow m.new e) s) ∧
    (m.wrapped = true →
      let walked := s.evaluateCues i { m with wrapped := false }
      s.evaluateCues i m =
        { walked with
          screens := walked.screens.set i
            { walked.scr i with cues := (walked.scr i).cues.map (fun e => { e with state := .armed }) } }))

/-- What cues do. A passed cue drops its EVENT actions without a record: one all of whose actions are of class EVENT posts
CUE PASSED with 0 applied, raises the cues passed counter, becomes PASSED, and does nothing else; a passed cue applies its
STATE actions in order with ramp times 0 and posts PASSED with the number applied (R151; the count is log 23). A fired cue
posts FIRED, is counted, performs every action in order and becomes FIRED (R150). A cue whose condition is false is skipped
and posts SKIPPED (R152). The immediate slot performs its content and is emptied (R162; the fault of a reference not found
is log 41). Each action does to its target what R155 to R159 say, or posts FAULT with its index when the target is not valid
(R160). The records' details are those of logs 14 and 15. -/
def Obligations.PassedCueDropsEventActions : Prop :=
  (∀ (s : State) (i : ScreenIx) (e : CueEntry), (∀ a ∈ e.actions, a.isState = false) →
    let posted := s.post .cuePassed i ((e.context .list).bytes ++ [0x00, 0x00])
    let c : Screen :=
      { s.scr i with
        live := { (s.scr i).live with cuesPassed := min ((s.scr i).live.cuesPassed + 1) 4294967295 },
        cues := (s.scr i).cues.map (fun x => if x.number = e.number then { x with state := .passed } else x) }
    s.passCue i (e.context .list) e = { posted with screens := s.screens.set i c }) ∧
  (∀ (source : CueSource) (number time : Option Nat),
    CueContext.bytes { source := source, number := number, time := time } =
      (match source with
        | .list => [0x00, 0x00]
        | .immediate .request => [0x01, 0x00]
        | .immediate (.contact l) => [0x01, BitVec.ofNat 8 (l.val + 1)]) ++
        u16 (number.getD 0xFFFF) ++ u32 (time.getD 0xFFFFFFFF)) ∧
  (∀ (s : State) (i : ScreenIx) (x : CueContext) (e : CueEntry),
    let ended (t : State) (live : Counters → Counters) (state : CueState) : State :=
      { t with
        screens := t.screens.set i
          { t.scr i with
            live := live (t.scr i).live,
            cues := (t.scr i).cues.map (fun y => if y.number = e.number then { y with state := state } else y) } }
    let fired := s.post .cueFired i (x.bytes ++ u16 e.actions.length)
    let counted : State :=
      { fired with
        screens := s.screens.set i
          { s.scr i with live :=
              { (s.scr i).live with cuesFired := min ((s.scr i).live.cuesFired + 1) 4294967295 } } }
    let performed := (e.actions.zipIdx 1).foldl (fun t p => (t.performAction i x false p.2 p.1).1) counted
    let applied : State × Nat :=
      (e.actions.zipIdx 1).foldl
        (fun r p =>
          if p.1.isState then
            let done := r.1.performAction i x true p.2 p.1
            (done.1, if done.2 then r.2 + 1 else r.2)
          else r)
        (s, 0)
    s.fireCue i x e = ended performed id .fired ∧
    s.passCue i x e =
      ended (applied.1.post .cuePassed i (x.bytes ++ u16 applied.2))
        (fun v => { v with cuesPassed := min (v.cuesPassed + 1) 4294967295 }) .passed ∧
    (∀ c : Condition,
      s.skipCue i x e c =
        ended
          (s.post .cueSkipped i (x.bytes ++
            (match c with
              | .lineLevel l _ => [0x01, BitVec.ofNat 8 (boolCode (s.lineLevel l))]
              | .format _ => [0x02, BitVec.ofNat 8 (inForceCode (s.scr i).decoder.inForce)]
              | .playing _ => [0x03, BitVec.ofNat 8 (s.scr i).intake.selection.code])))
          id .skipped)) ∧
  (∀ (s : State) (i : ScreenIx),
    let met (c : Condition) : Prop :=
      match c with
      | .lineLevel l on => s.lineLevel l = on
      | .format f => (s.scr i).decoder.inForce = some f
      | .playing l => (s.scr i).intake.selection = l
    let emptied (t : State) : State := { t with screens := t.screens.set i { t.scr i with immediate := .empty } }
    (∀ (window new : Nat) (e : CueEntry),
      let x : CueContext := { source := .list, number := some e.number, time := some e.time }
      ((∀ c, e.condition = some c → met c) →
        s.reachCue i window new e = if e.time + window ≤ new then s.passCue i x e else s.fireCue i x e) ∧
      (∀ c, e.condition = some c → ¬ met c → s.reachCue i window new e = s.skipCue i x e c)) ∧
    ((s.scr i).immediate = .empty → s.performSlot i = s) ∧
    (∀ (l : List CueAction) (source : FireSource), (s.scr i).immediate = .actions l source →
      let x : CueContext := { source := .immediate source, number := none, time := none }
      let fired := s.post .cueFired i (x.bytes ++ u16 l.length)
      let counted : State :=
        { fired with
          screens := s.screens.set i
            { s.scr i with live :=
                { (s.scr i).live with cuesFired := min ((s.scr i).live.cuesFired + 1) 4294967295 } } }
      s.performSlot i = emptied ((l.zipIdx 1).foldl (fun t p => (t.performAction i x false p.2 p.1).1) counted)) ∧
    (∀ (n : Nat) (source : FireSource), (s.scr i).immediate = .cue n source →
      ((∀ e ∈ (s.scr i).cues, e.number ≠ n) →
        s.performSlot i =
          emptied (s.post .cueFault i
            (CueContext.bytes { source := .immediate source, number := some n, time := none } ++ [0x00, 0xFF, 0x02]))) ∧
      (∀ e, (s.scr i).cues.find? (fun e => e.number = n) = some e →
        let x : CueContext := { source := .immediate source, number := some e.number, time := some e.time }
        ((∀ c, e.condition = some c → met c) → s.performSlot i = emptied (s.fireCue i x e)) ∧
        (∀ c, e.condition = some c → ¬ met c → s.performSlot i = emptied (s.skipCue i x e c))))) ∧
  (∀ (s : State) (i : ScreenIx) (x : CueContext) (jump : Bool) (index : Nat) (a : CueAction),
    let c := s.scr i
    let put (c : Screen) : State × Bool := ({ s with screens := s.screens.set i c }, true)
    let fault (code : Byte) : State × Bool :=
      (s.post .cueFault i (x.bytes ++ [BitVec.ofNat 8 index, BitVec.ofNat 8 a.kindCode, code]), false)
    let law (p : Nat) : Int :=
      if p = 0 then -480 else if p < 35 then -70 - 9 * (35 - (p : Int)) else 2 * ((p : Int) - 70)
    let aim (r : Ramp) (target : Int) (ramp : Nat) : Ramp :=
      if jump = true ∨ ramp = 0 ∨ r.current = target then { current := target, target := target, rate := 0 }
      else { current := r.current, target := target, rate := ((target - r.current).natAbs + ramp - 1) / ramp }
    let line (l : LineIx) (level : Bool) (pulse : Option PartTime) : State × Bool :=
      if (s.line l).cueScreen = some i then
        ({ s with lines := s.lines.set l { s.line l with level := level, pulse := pulse } }, true)
      else fault 0x01
    s.performAction i x jump index a =
      match a with
      | .fader position ramp =>
        let p := min position c.gain.limit
        put { c with gain := { c.gain with faderPosition := p, fader := aim c.gain.fader (law p) ramp } }
      | .offset mask gs ramp =>
        put { c with gain := { c.gain with offsets := Vector.ofFn (fun b : Fin 8 =>
          if mask.getLsbD b.val then aim c.gain.offsets[b] (max (-120) (min 24 gs)) ramp else c.gain.offsets[b]) } }
      | .mute mask on =>
        put { c with gain := { c.gain with mutes := Vector.ofFn (fun b : Fin 8 =>
          if mask.getLsbD b.val then { c.gain.mutes[b] with target := if on then -480 else 0 } else c.gain.mutes[b]) } }
      | .preset t =>
        if (∃ p, t = some p ∧ s.library[p] = none) then fault 0x00
        else if c.equaliser.switch = .idle then (s.presetTried i t, true)
        else
          let waiting := (put { c with equaliser := { c.equaliser with waiting := some t } }).1
          (match c.equaliser.waiting with
            | none => waiting
            | some displaced => waiting.post .presetReplaced i (targetField displaced ++ targetField t), true)
      | .format f => put { c with decoder := { c.decoder with forced := f } }
      | .source l => put { c with intake := { c.intake with staged := l } }
      | .lineSet l => line l true none
      | .lineClear l => line l false none
      | .lineToggle l => line l (if (s.line l).pulse.isSome then false else !(s.line l).level) none
      | .linePulse l width => line l true (some (s.time + BitVec.ofNat 32 width))
      | .clock k => (s.commanded i k [0x01, 0x00], true)
      | .mark n => (s.post .cueMark i (x.bytes ++ u16 n), true))

/-! ### Alarms and guard -/

/-- SET_ALARM replaces one kind's settings, its dwells rounded up to 10 ms, and returns the kind's instances to IDLE; the
other kinds keep theirs, and nothing is posted (R115, R116). SET_GUARD replaces the guard's settings, its times rounded up to
10 ms; an enabled guard that stays enabled keeps its value, raised to a floor above it, and its counts, lowered to their new
lengths; otherwise the value becomes 0, the step timer the interval length, the release count 0 and the direction NONE;
nothing is posted (R126). The fields of both replies and their order are log 31, and the widths of the thresholds log 15. -/
def Obligations.AlarmAndGuardSettings : Prop :=
  (∀ (s : State) (q : Req) (i : ScreenIx) (k : AlarmKind) (threshold hysteresis : Int) (raise clear interval count : Nat)
    (latch : Bool),
    (k = .overLevel → 0 ≤ threshold ∧ threshold ≤ 1500 ∧ 0 ≤ hysteresis ∧ hysteresis ≤ 200) →
    (k = .clip → 1 ≤ threshold ∧ threshold ≤ 100) → (k = .silence → 0 ≤ threshold ∧ threshold ≤ 1500) →
    raise ≤ 600000 → clear ≤ 600000 → 1 ≤ interval → interval ≤ 600 → count ≤ 15 →
    let command : Instr :=
      .setAlarm q (i.val + 1) k.code threshold hysteresis raise clear (boolCode latch) interval count
    Served q command s →
      ∃ t, exec command s = .next t ∧
        (∀ id, (t.scr i).alarms.get id = if id.kind = k then Alarm.reset else (s.scr i).alarms.get id) ∧
        (∀ k', k' ≠ k → (t.scr i).alarms.settings k' = (s.scr i).alarms.settings k') ∧
        (t.scr i).alarms.settings k =
          { threshold := if k = .stream then 0 else threshold,
            hysteresis := if k = .overLevel then hysteresis else 0,
            raiseDwell := (raise + 9) / 10 * 10, clearDwell := (clear + 9) / 10 * 10, latch := latch,
            remindInterval := interval, remindLimit := count } ∧
        t = ({ s.beginService with
            screens := s.screens.set i { s.scr i with alarms := (t.scr i).alarms } }).pushPath
          { tag := q.tag, kind := 0x50, payload := 0x00 :: settingsFields k ((t.scr i).alarms.settings k) }) ∧
  (∀ (s : State) (q : Req) (i : ScreenIx) (on : Bool) (step interval : Nat) (floor : Int) (release : Nat),
    1 ≤ step → step ≤ 12 → 91 ≤ interval → interval ≤ 5000 → -60 ≤ floor → floor ≤ 0 → 991 ≤ release →
    release ≤ 60000 → Served q (.setGuard q (i.val + 1) (boolCode on) step interval floor release) s →
      let g := (s.scr i).guard
      let interval' := (interval + 9) / 10 * 10
      let release' := (release + 9) / 10 * 10
      let keep := on = true ∧ g.enabled = true
      let g' : GuardBlock :=
        { enabled := on, value := if keep then max g.value floor else 0, step := step, interval := interval',
          floor := floor, release := release',
          stepTimer := if keep then min g.stepTimer (interval' / 10) else interval' / 10,
          releaseCount := if keep then min g.releaseCount (release' / 10) else 0,
          direction := if keep then g.direction else .none }
      exec (.setGuard q (i.val + 1) (boolCode on) step interval floor release) s =
        .next (({ s.beginService with screens := s.screens.set i { s.scr i with guard := g' } }).pushPath
          { tag := q.tag, kind := 0x52,
            payload := [0x00, BitVec.ofNat 8 (boolCode on), BitVec.ofNat 8 step] ++ u32 interval' ++ s16 floor ++
              u32 release' ++ s16 g'.value }))

/-- R114: ACK_ALARM on an IDLE or PENDING instance is answered STATE; on a RAISED or CLEARING one it sets acknowledged and
posts ACKED, once; on a LATCHED one it returns the instance to IDLE and posts CLEARED. The reply carries the state after. A
screen, a kind, or a bus of CLIP or SILENCE out of range is refused BAD_ARG; another kind's bus is ignored. That the record
and any ATTENTION notice stand before the reply is the model's choice (log 13). The records' detail is log 14, the
calibration in force behind an SPL reading log 38, and the stored STREAM reading log 21. -/
def Obligations.AcknowledgeByState : Prop :=
  (∀ (s : State) (q : Req) (i : ScreenIx) (k : AlarmKind) (bus : Nat) (id : AlarmId),
    alarmIdOf k bus = some id → Served q (.ackAlarm q (i.val + 1) k.code bus) s →
      let x := (s.scr i).alarms.get id
      let put (y : Alarm) : State :=
        { s.beginService with
          screens := s.screens.set i { s.scr i with alarms := (s.scr i).alarms.put id y } }
      let acked := put { x with acknowledged := true }
      let cleared := put Alarm.reset
      let reply (status : Byte) (y : Alarm) : Frame :=
        { tag := q.tag, kind := 0x51, payload := [status, BitVec.ofNat 8 y.state.code] }
      exec (.ackAlarm q (i.val + 1) k.code bus) s =
        .next
          (if x.state = .idle ∨ x.state = .pending then s.beginService.pushPath (reply 0x08 x)
          else if x.state = .latched then
            (cleared.post .alarmCleared i ((cleared.scr i).alarmDetail id)).pushPath (reply 0x00 Alarm.reset)
          else if x.acknowledged then s.beginService.pushPath (reply 0x00 x)
          else (acked.post .alarmAcked i ((acked.scr i).alarmDetail id)).pushPath (reply 0x00 x))) ∧
  (∀ (s : State) (q : Req) (n kind bus : Nat), ¬ (Instr.ackAlarm q n kind bus).inRange →
    Served q (.ackAlarm q n kind bus) s →
      exec (.ackAlarm q n kind bus) s =
        .next (s.beginService.pushPath { tag := q.tag, kind := 0x51, payload := [0x02] }))

/-- An IDLE instance whose condition is true at every close is PENDING with dwell count 0, 1, 2 and so on, and becomes
RAISED, not acknowledged, at the close at which the count reaches the raise length (R108). At the close at which a raise
dwell expires the instance is RAISED afresh; at which a clear dwell expires it is LATCHED when the kind latches and it was
not acknowledged, else IDLE; at which a reminder falls due it stays RAISED with its remind count at 0 and one reminder more
(R109, R111, R112). The command is the boundary of that close (log 1). At every close each instance moves from its
condition, by the readings of R103 to R106, and by the whole transition table with R109 to R112, and posts what its move
asks for (R102, R108, R113). That a return to RAISED counts toward a reminder at that close is log 39, the dwell counts of 0
log 40, the stored STREAM reading log 21, and the records' details logs 14, 15 and 38. -/
def Obligations.AlarmEventsAtTheirClose : Prop :=
  (∀ (set : AlarmSettings) (x : Alarm), x.state = .idle →
    (∀ n, 1 ≤ n → n ≤ set.raiseDwell / 10 →
      Alarm.afterCloses set n x = { x with state := .pending, dwell := n - 1 }) ∧
    Alarm.afterCloses set (set.raiseDwell / 10 + 1) x =
      { state := .raised, acknowledged := false, dwell := 0, remindCount := 0, reminders := 0 }) ∧
  (∀ (s : State) (i : ScreenIx) (id : AlarmId), s.alarmPost i id = some .raised →
    ∃ t, exec (.raiseDwellExpiry i id) s = .next t ∧
      (t.scr i).alarms.get id =
        { state := .raised, acknowledged := false, dwell := 0, remindCount := 0, reminders := 0 }) ∧
  (∀ (s : State) (i : ScreenIx) (id : AlarmId),
    s.alarmPost i id = some .cleared ∨ s.alarmPost i id = some .latched →
    ∃ t, exec (.clearDwellExpiry i id) s = .next t ∧
      (t.scr i).alarms.get id =
        { Alarm.reset with
          state :=
            if ((s.scr i).alarms.settings id.kind).latch = true ∧ ((s.scr i).alarms.get id).acknowledged = false then
              .latched
            else .idle }) ∧
  (∀ (s : State) (i : ScreenIx) (id : AlarmId) (n : Nat), s.alarmPost i id = some (.remind n) →
    ∃ t, exec (.remind i id) s = .next t ∧ n = ((s.scr i).alarms.get id).reminders + 1 ∧
      (t.scr i).alarms.get id =
        { (s.scr i).alarms.get id with
          state := .raised, dwell := if ((s.scr i).alarms.get id).state = .raised then ((s.scr i).alarms.get id).dwell
            else 0,
          remindCount := 0, reminders := min 15 n }) ∧
  (∀ (s : State) (i : ScreenIx), 9 ≤ (s.scr i).meters.boundaryCount →
    ∃ t, exec (.intervalClose i) s = .next t ∧
      (∀ k, (t.scr i).alarms.settings k = (s.scr i).alarms.settings k) ∧
      ∀ id,
        (t.scr i).alarms.get id =
          (((s.scr i).alarms.get id).move ((s.scr i).alarms.settings id.kind)
            (Screen.condition { t.scr i with alarms := (s.scr i).alarms } id)).alarm) ∧
  (∀ (c : Screen) (b : Bus),
    let spl := c.meters.totalLevel + c.meters.calibration
    let set := c.alarms.overSettings
    let slotState := (c.intake.slot c.intake.selection).state
    (c.condition .overLevel = true ↔
      if c.alarms.overLevel.state = .raised ∨ c.alarms.overLevel.state = .clearing then
        set.threshold < spl ∨ set.threshold - set.hysteresis < spl
      else set.threshold < spl) ∧
    (c.condition (.clip b) = true ↔ c.alarms.clipSettings.threshold ≤ c.meters.clipCounts[b]) ∧
    (c.condition (.silence b) = true ↔
      c.decoder.mask.getLsbD b.val = true ∧
        c.meters.busLevels[b] + c.meters.calibration < c.alarms.silenceSettings.threshold ∧ slotState = .playing ∧
        c.clock.state = .running ∧ c.gain.mutes[b].target = 0 ∧ 0 < c.gain.faderPosition) ∧
    (c.condition .stream = true ↔ c.clock.state = .running ∧ slotState ≠ .playing)) ∧
  (∀ (set : AlarmSettings) (x : Alarm) (condition : Bool),
    let raiseLength := set.raiseDwell / 10
    let clearLength := set.clearDwell / 10
    let fresh : AlarmMove :=
      { alarm := { state := .raised, acknowledged := false, dwell := 0, remindCount := 0, reminders := 0 },
        post := some .raised }
    let stay (y : Alarm) : AlarmMove := { alarm := y, post := none }
    let ended : AlarmMove :=
      if set.latch = true ∧ x.acknowledged = false then
        { alarm := { state := .latched, acknowledged := false, dwell := 0, remindCount := 0, reminders := 0 },
          post := some .latched }
      else
        { alarm := { state := .idle, acknowledged := false, dwell := 0, remindCount := 0, reminders := 0 },
          post := some .cleared }
    let reminded (y : Alarm) : AlarmMove :=
      if y.acknowledged = false ∧ (set.remindLimit = 15 ∨ y.reminders < set.remindLimit) then
        if set.remindInterval * 100 ≤ y.remindCount + 1 then
          { alarm := { y with remindCount := 0, reminders := min 15 (y.reminders + 1) },
            post := some (.remind (y.reminders + 1)) }
        else stay { y with remindCount := y.remindCount + 1 }
      else stay y
    x.move set condition =
      match x.state with
      | .idle =>
        if condition then if raiseLength = 0 then fresh else stay { x with state := .pending, dwell := 0 } else stay x
      | .pending =>
        if condition then if raiseLength ≤ x.dwell + 1 then fresh else stay { x with dwell := x.dwell + 1 }
        else stay { x with state := .idle, dwell := 0 }
      | .raised =>
        if condition then reminded x
        else if clearLength = 0 then ended else stay { x with state := .clearing, dwell := 0 }
      | .clearing =>
        if condition then reminded { x with state := .raised, dwell := 0 }
        else if clearLength ≤ x.dwell + 1 then ended else stay { x with dwell := x.dwell + 1 }
      | .latched =>
        if condition then if raiseLength = 0 then fresh else stay { x with state := .pending, dwell := 0 } else stay x) ∧
  (∀ (s : State) (i : ScreenIx) (id : AlarmId),
    let c := s.scr i
    let m := (c.alarms.get id).move (c.alarms.settings id.kind) (c.condition id)
    let moved : State := { s with screens := s.screens.set i { c with alarms := c.alarms.put id m.alarm } }
    let reading : List Byte :=
      match id with
      | .overLevel => s16 (c.meters.totalLevel + c.meters.calibration)
      | .clip b => u16 c.meters.clipCounts[b]
      | .silence b => s16 (c.meters.busLevels[b] + c.meters.calibration)
      | .stream => [BitVec.ofNat 8 c.alarms.streamState.code, BitVec.ofNat 8 c.alarms.streamLetter.code]
    let detail : List Byte :=
      [BitVec.ofNat 8 id.kind.code,
        match id with | .clip b => BitVec.ofNat 8 b.val | .silence b => BitVec.ofNat 8 b.val | _ => 0xFF,
        BitVec.ofNat 8 m.alarm.state.code, BitVec.ofNat 8 (boolCode m.alarm.acknowledged)] ++ reading
    s.evaluateAlarm i id =
      match m.post with
      | none => moved
      | some .raised =>
        { moved.post .alarmRaised i detail with
          screens := moved.screens.set i
            { moved.scr i with live :=
                { c.live with alarmRaises := min (c.live.alarmRaises + 1) 4294967295 } } }
      | some .cleared => moved.post .alarmCleared i detail
      | some .latched => moved.post .alarmLatched i detail
      | some (.remind n) => moved.post .alarmRemind i (detail ++ u16 n))

/-- A guard that reduces at a close falls by its step or to its floor, and one that releases rises by its step or to 0;
either returns the step timer to 0 and leaves the settings (R122, R124, R125). The command is the boundary of that close
(log 1). At every close the guard counts, and reduces or releases, by its counts, the class of the total SPL at that close
and the state of the OVER_LEVEL instance after it (R122, R124), and a step in a new direction posts its GUARD record (R125;
detail: log 14). -/
def Obligations.GuardStepsAtTheirClose : Prop :=
  (∀ (s : State) (i : ScreenIx), (s.scr i).closeDue = true → (s.evaluated i).guardReduces = true →
    ∃ t, exec (.guardReduceStep i) s = .next t ∧
      (t.scr i).guard =
        { (s.scr i).guard with
          value := max (s.scr i).guard.floor ((s.scr i).guard.value - (s.scr i).guard.step), stepTimer := 0,
          releaseCount := 0, direction := .down }) ∧
  (∀ (s : State) (i : ScreenIx), (s.scr i).closeDue = true → (s.evaluated i).guardReleases = true →
    ∃ t, exec (.guardReleaseStep i) s = .next t ∧
      (t.scr i).guard =
        { (s.scr i).guard with
          value := min 0 ((s.scr i).guard.value + (s.scr i).guard.step), stepTimer := 0,
          releaseCount := (s.scr i).guard.release / 10, direction := .up }) ∧
  (∀ (s : State) (i : ScreenIx), 9 ≤ (s.scr i).meters.boundaryCount →
    ∃ t, exec (.intervalClose i) s = .next t ∧
      let g := (s.scr i).guard
      let set := (s.scr i).alarms.overSettings
      let spl := (t.scr i).meters.totalLevel + (t.scr i).meters.calibration
      let above := set.threshold < spl
      let below := ¬ above ∧ spl ≤ set.threshold - set.hysteresis
      let timer := if g.stepTimer < g.interval / 10 then g.stepTimer + 1 else g.stepTimer
      let count := if below then min (g.release / 10) (g.releaseCount + 1) else 0
      (t.scr i).guard =
        if g.enabled = false then g
        else if (t.scr i).alarms.overLevel.state = .raised ∧ above ∧ timer = g.interval / 10 ∧ g.floor < g.value then
          { g with value := max g.floor (g.value - g.step), stepTimer := 0, releaseCount := count, direction := .down }
        else if count = g.release / 10 ∧ g.value < 0 ∧ timer = g.interval / 10 then
          { g with value := min 0 (g.value + g.step), stepTimer := 0, releaseCount := count, direction := .up }
        else { g with stepTimer := timer, releaseCount := count }) ∧
  (∀ (s : State) (i : ScreenIx) (up : Bool),
    let g := (s.scr i).guard
    let stepped : GuardBlock :=
      { g with value := if up then min 0 (g.value + g.step) else max g.floor (g.value - g.step), stepTimer := 0,
               direction := if up then .up else .down }
    let moved : State := { s with screens := s.screens.set i { s.scr i with guard := stepped } }
    let turned := if up then g.direction = .down else g.direction ≠ .down
    (if up then s.guardUpStep i else s.guardDownStep i) =
      if turned then
        moved.post (if up then .guardUp else .guardDown) i
          (s16 stepped.value ++ s16 ((s.scr i).meters.totalLevel + (s.scr i).meters.calibration))
      else moved)

/-! ### Stream intake -/

/-- BIND puts a stream ID that no slot holds into an EMPTY slot, which begins WAITING with nothing learned, and the ID
leaves the seen list; a slot in use or an ID held elsewhere is refused IN_USE (R6). UNBIND makes a bound slot EMPTY, a
holding one sending its PACE_GO first, and leaves an EMPTY one as it is (R7). Each change of state posts STREAM STATE (R5).
SET_SOURCE stages a selection (R17). LIST_SEEN sets the discovery mode unless told KEEP and replies it with the seen list
(R25). That an UNBIND's record names the ID released is the model's choice (log 17); the record's detail rests on logs 14
and 15, and that the record stands before the reply on log 13; the bytes of PACE_GO are log 30. -/
def Obligations.BindingRequests : Prop :=
  (∀ (s : State) (q : Req) (i : ScreenIx) (l : Letter) (id : StreamId), id ≠ 0 →
    Served q (.bind q (i.val + 1) l.code id) s →
      let x : Slot :=
        { state := .waiting, streamId := some id, source := none, holding := false, lastAccepted := none,
          expected := none, buffer := [] }
      let c : Screen := { s.scr i with intake := (s.scr i).intake.setSlot l x }
      let s' : State :=
        { s.beginService with screens := s.screens.set i c, seen := s.seen.filter (fun e => e.streamId ≠ id) }
      let command : Instr := .bind q (i.val + 1) l.code id
      ((s.slot i l).state ≠ .empty ∨ (∃ j m, (s.slot j m).streamId = some id) →
        exec command s = .next (s.beginService.pushPath { tag := q.tag, kind := 0x41, payload := [0x06] })) ∧
      ((s.slot i l).state = .empty → (∀ j m, (s.slot j m).streamId ≠ some id) →
        exec command s =
          .next ((s'.post .streamState i ([BitVec.ofNat 8 l.code] ++ u32 id.toNat ++ [0x00, 0x01, 0x00, 0x00])).pushPath
            { tag := q.tag, kind := 0x41, payload := [0x00] }))) ∧
  (∀ (s : State) (q : Req) (i : ScreenIx) (l : Letter), Served q (.unbind q (i.val + 1) l.code) s →
    let x := s.slot i l
    let c : Screen := { s.scr i with intake := (s.scr i).intake.setSlot l Slot.reset }
    let s' : State := { s.beginService with screens := s.screens.set i c, paceOut := s.paceOut ++ x.paceGo }
    exec (.unbind q (i.val + 1) l.code) s =
      .next
        (if x.state = .empty then s.beginService.pushPath { tag := q.tag, kind := 0x42, payload := [0x00] }
        else
          (s'.post .streamState i
            ([BitVec.ofNat 8 l.code] ++ u32 (x.streamId.getD 0xFFFFFFFF).toNat ++
              [BitVec.ofNat 8 x.state.code, 0x00, 0x00, 0x00])).pushPath
            { tag := q.tag, kind := 0x42, payload := [0x00] })) ∧
  (∀ (s : State) (q : Req) (i : ScreenIx) (l : Letter), Served q (.setSource q (i.val + 1) l.code) s →
    let c : Screen := { s.scr i with intake := { (s.scr i).intake with staged := l } }
    exec (.setSource q (i.val + 1) l.code) s =
      .next (({ s.beginService with screens := s.screens.set i c }).pushPath
        { tag := q.tag, kind := 0x44, payload := [0x00] })) ∧
  (∀ (s : State) (q : Req) (n : Nat), n ≤ 2 → Served q (.listSeen q n) s →
    let mode := if n = 2 then s.discovery else decide (n = 1)
    exec (.listSeen q n) s =
      .next (({ s.beginService with discovery := mode }).pushPath
        { tag := q.tag, kind := 0x45,
          payload := [0x00, BitVec.ofNat 8 (boolCode mode), BitVec.ofNat 8 s.seen.length] ++
            s.seen.flatMap (fun e : SeenEntry => u32 e.streamId.toNat ++ beBytes 6 e.source.toNat ++ u8 e.format.code) }))

/-- SET_INTAKE replaces the five settings and brings the two slots of the screen into agreement with them, each by its state
and fill: a FILLING slot that has reached the start level becomes READY, a READY one below it FILLING, a STARVED one that has
reached it PLAYING when it is the slot named and READY otherwise; a READY slot slides down to the start level, and no other
block is lost, the expected sequence following the last one removed; a PLAYING slot is holding as the watermarks and pacing
ask, and sends its pace message when that changes. Each change of state posts STREAM STATE. The take state stays (R5, R13 to
R16; for a slot newly PLAYING log 24). That slot A comes before slot B is log 36; the records' details are logs 14 and 15, the
widths of the reply log 15, its standing last log 13, and the bytes of a pace message log 30. -/
def Obligations.SetIntakeAgrees : Prop :=
  ∀ (s : State) (q : Req) (i : ScreenIx) (start low high : Nat) (policy : UnderrunPolicy) (pacing : Bool),
    2 ≤ start → start ≤ 32 → 1 ≤ low → low < start → start < high → high ≤ 63 →
    let command : Instr := .setIntake q (i.val + 1) start low high policy.code (boolCode pacing)
    Served q command s →
      ∃ t, exec command s = .next t ∧
        (t.scr i).intake.start = start ∧ (t.scr i).intake.low = low ∧ (t.scr i).intake.high = high ∧
        (t.scr i).intake.policy = policy ∧ (t.scr i).intake.pacing = pacing ∧
        (t.scr i).intake.selection = (s.scr i).intake.selection ∧ (t.scr i).intake.staged = (s.scr i).intake.staged ∧
        (t.scr i).intake.lastTaken = (s.scr i).intake.lastTaken ∧
        (t.scr i).intake.followingReal = (s.scr i).intake.followingReal ∧
        (∀ l,
          let x := s.slot i l
          let y := t.slot i l
          let slid := x.buffer.drop (x.buffer.length - start)
          (y.state, y.buffer) =
            (match x.state with
              | .filling => if start ≤ x.buffer.length then (.ready, slid) else (.filling, x.buffer)
              | .ready => if start ≤ x.buffer.length then (.ready, slid) else (.filling, x.buffer)
              | .starved =>
                if start ≤ x.buffer.length then
                  if (s.scr i).intake.selection = l then (.playing, x.buffer) else (.ready, slid)
                else (.starved, x.buffer)
              | other => (other, x.buffer)) ∧
          y.holding =
            (if y.state = .playing then
              if x.holding then pacing && decide (low < x.buffer.length)
              else pacing && decide (high ≤ x.buffer.length)
            else x.holding) ∧
          y.streamId = x.streamId ∧ y.source = x.source ∧ y.lastAccepted = x.lastAccepted ∧
          y.expected =
            (match y.state, (x.buffer.take (x.buffer.length - start)).getLast? with
              | .ready, some b => some (b.seq + 1)
              | _, _ => x.expected)) ∧
        (∀ j, j ≠ i → t.scr j = s.scr j) ∧ t.scr i = { s.scr i with intake := (t.scr i).intake } ∧
        t = { s with
          screens := t.screens, paceOut := t.paceOut, queue := t.queue,
          port := { s.port with holding := s.port.holding.tail, path := t.port.path } } ∧
        (let pace (l : Letter) : List EthernetFrame :=
            let x := s.slot i l
            if (t.slot i l).state = .playing then
              if x.holding then if pacing && decide (low < x.buffer.length) then [] else x.paceGo
              else if pacing && decide (high ≤ x.buffer.length) then x.paceHold (x.buffer.length - start) else []
            else []
          let told (l : Letter) (u : State) : State :=
            let x := s.slot i l
            let y := t.slot i l
            if x.state = y.state then u
            else
              u.post .streamState i
                ([BitVec.ofNat 8 l.code] ++ u32 (x.streamId.getD 0xFFFFFFFF).toNat ++
                  [BitVec.ofNat 8 x.state.code, BitVec.ofNat 8 y.state.code] ++ u16 y.buffer.length)
          t.paceOut = s.paceOut ++ pace .a ++ pace .b ∧
            t = (told .b (told .a { s.beginService with screens := t.screens, paceOut := t.paceOut })).pushPath
              { tag := q.tag, kind := 0x43,
                payload := 0x00 :: u16 start ++ u16 low ++ u16 high ++
                  [BitVec.ofNat 8 policy.code, BitVec.ofNat 8 (boolCode pacing)] }) ∧
        t.port.path.getLast? = some
          { tag := q.tag, kind := 0x43,
            payload := 0x00 :: u16 start ++ u16 low ++ u16 high ++
              [BitVec.ofNat 8 policy.code, BitVec.ofNat 8 (boolCode pacing)] }

/-- The program port (R2 to R4, R9): a frame that is not addressed to the part or is of another Ethernet type changes
nothing; a malformed packet is counted and changes nothing else; a packet no slot is bound to is counted, and in discovery
it comes first on the seen list, a new stream pushing out the eighth and posting STREAM SEEN; the first packet of a slot
WAITING or LOST begins a fill with it; any other packet goes to the one slot its stream ID is bound to. The details of the
records are those of logs 14, 15 and 17. A packet is malformed by the four checks of R2, and else read as its layout says
(R200). That no other slot holds the stream ID is R6's law, which IntakeKept states every step keeps. -/
def Obligations.PacketAtTheProgramPort : Prop :=
  (∀ (s : State) (dest : Mac) (etherType : BitVec 16) (source : Mac) (payload : List Byte),
    let command : Instr := .audioPacket dest etherType source payload
    let mine := (dest = Config.stationAddress ∨ dest = 0xFFFFFFFFFFFF) ∧ etherType = 0x88B5
    (¬ mine → exec command s = .next s) ∧
    (mine → packetOf payload = none →
      exec command s =
        .next { s with partLive :=
          { s.partLive with packetsMalformed := min (s.partLive.packetsMalformed + 1) 4294967295 } }) ∧
    (mine → ∀ (id : StreamId) (b : Block), packetOf payload = some (id, b) → (∀ j m, (s.slot j m).streamId ≠ some id) →
      let counted : State :=
        { s with partLive :=
          { s.partLive with packetsUnmatched := min (s.partLive.packetsUnmatched + 1) 4294967295 } }
      let entry : SeenEntry := { streamId := id, source := source, format := b.format }
      exec command s =
        .next
          (if s.discovery = false then counted
          else if id ∈ s.seen.map SeenEntry.streamId then
            { counted with seen := entry :: s.seen.filter (fun e => e.streamId ≠ id) }
          else ({ counted with seen := entry :: s.seen.take 7 }).postAt .streamSeen none none (u32 id.toNat))) ∧
    (mine → ∀ (id : StreamId) (b : Block) (i : ScreenIx) (l : Letter), packetOf payload = some (id, b) →
      (s.slot i l).streamId = some id → (∀ j m, (s.slot j m).streamId = some id → j = i ∧ m = l) →
      (s.slot i l).state = .waiting ∨ (s.slot i l).state = .lost →
        let x : Slot :=
          { s.slot i l with
            state := .filling, source := some source, lastAccepted := some s.time, expected := some b.seq, buffer := [b] }
        let live := (s.scr i).live
        let c : Screen :=
          { s.scr i with
            intake := (s.scr i).intake.setSlot l x,
            live := { live with packetsAccepted := min (live.packetsAccepted + 1) 4294967295 } }
        exec command s =
          .next (({ s with screens := s.screens.set i c }).post .streamState i
            ([BitVec.ofNat 8 l.code] ++ u32 id.toNat ++
              [BitVec.ofNat 8 (s.slot i l).state.code, 0x02, 0x00, 0x01]))) ∧
    (mine → ∀ (id : StreamId) (b : Block) (i : ScreenIx) (l : Letter), packetOf payload = some (id, b) →
      (s.slot i l).streamId = some id → (∀ j m, (s.slot j m).streamId = some id → j = i ∧ m = l) →
        exec command s = .next (s.arrive i l b source))) ∧
  (∀ payload : List Byte,
    let byteAt (k : Nat) : Nat := (payload.getD k 0).toNat
    let number (k n : Nat) : Nat := ((payload.drop k).take n).foldl (fun v b => 256 * v + b.toNat) 0
    let mask : Byte := payload.getD 11 0
    let below (k : Nat) : Nat := ((List.range k).filter (fun j => mask.getLsbD j)).length
    let malformed :=
      payload.length ≠ 12 + 144 * below 8 ∨ 5 ≤ byteAt 10 % 16 ∨ mask = 0 ∨ number 0 4 = 0
    let sample (k : Nat) : Int := if number k 3 < 8388608 then number k 3 else number k 3 - 16777216
    packetOf payload =
      if malformed then none
      else
        some (BitVec.ofNat 32 (number 0 4),
          { seq := BitVec.ofNat 16 (number 4 2),
            position := if number 6 4 = 4294967295 then none else some (number 6 4),
            format :=
              if byteAt 10 % 16 = 0 then .mono else if byteAt 10 % 16 = 1 then .stereo else if byteAt 10 % 16 = 2 then .matrix
              else if byteAt 10 % 16 = 3 then .discrete6 else .discrete8,
            mask := mask,
            channels := Vector.ofFn (fun k : Fin 8 =>
              if mask.getLsbD k.val then (List.range 48).map (fun n => sample (12 + 144 * below k.val + 3 * n)) else []) }))

/-- The placing of a packet by its distance from the expected sequence (R10, R11), for a slot that is FILLING, READY, PLAYING
or STARVED: behind it, only the late count moves; in the window and there already, late and duplicate; in the window, the
block joins the others of the buffer and the slot is heard from; 64 or more ahead, the slot holds that one block, FILLING,
and expects it. A block in the window goes to its place by distance; a FILLING slot whose fill reaches the start level becomes
READY, a STARVED one PLAYING when it is the slot named and else READY (R12); a READY slot slides down to the start level, the
expected sequence following the last block removed (R13); a PLAYING slot that is not holding and reaches the high watermark
with pacing enabled sends PACE_HOLD (R14); and a change of state posts STREAM STATE (R5). The details of the records are logs
14, 15 and 17, and the bytes of the pace messages log 30. -/
def Obligations.PacketPlacedByDistance : Prop :=
  (∀ (s : State) (i : ScreenIx) (l : Letter) (b : Block) (source : Mac) (e : Seq),
    let x := s.slot i l
    let d := (b.seq - e).toNat
    let live := (s.scr i).live
    x.expected = some e →
    x.state = .filling ∨ x.state = .ready ∨ x.state = .playing ∨ x.state = .starved →
      (32768 ≤ d →
        let c : Screen := { s.scr i with live := { live with late := min (live.late + 1) 4294967295 } }
        s.arrive i l b source = { s with screens := s.screens.set i c }) ∧
      (d < 64 → (∃ y ∈ x.buffer, y.seq = b.seq) →
        let c : Screen :=
          { s.scr i with
            live := { live with late := min (live.late + 1) 4294967295,
                                duplicate := min (live.duplicate + 1) 4294967295 } }
        s.arrive i l b source = { s with screens := s.screens.set i c }) ∧
      (d < 64 → (∀ y ∈ x.buffer, y.seq ≠ b.seq) →
        let y := (s.arrive i l b source).slot i l
        y.lastAccepted = some s.time ∧ y.streamId = x.streamId ∧ y.source = x.source ∧
        ((s.arrive i l b source).scr i).live =
          { live with packetsAccepted := min (live.packetsAccepted + 1) 4294967295 } ∧
        (∃ gone, (gone ++ y.buffer).Perm (b :: x.buffer) ∧
          (gone = [] ∨ (y.state = .ready ∧ y.buffer.length = (s.scr i).intake.start)))) ∧
      (64 ≤ d → d < 32768 →
        let y := (s.arrive i l b source).slot i l
        y = { x with state := .filling, holding := false, lastAccepted := some s.time, expected := some b.seq,
                     buffer := [b] } ∧
        (s.arrive i l b source).paceOut = s.paceOut ++ x.paceGo ∧
        ((s.arrive i l b source).scr i).live =
          { live with packetsAccepted := min (live.packetsAccepted + 1) 4294967295,
                      resyncs := min (live.resyncs + 1) 4294967295 })) ∧
  (∀ (s : State) (i : ScreenIx) (l : Letter) (b : Block) (source : Mac) (e : Seq),
    let k := (s.scr i).intake
    let x := s.slot i l
    let d := (b.seq - e).toNat
    let live := (s.scr i).live
    let up (n : Nat) : Nat := min (n + 1) 4294967295
    let arrived (y : Slot) (live : Counters) (pace : List EthernetFrame) : State :=
      let u : State :=
        { s with screens := s.screens.set i { s.scr i with intake := k.setSlot l y, live := live },
                 paceOut := s.paceOut ++ pace }
      if x.state = y.state then u
      else
        u.post .streamState i
          ([BitVec.ofNat 8 l.code] ++ u32 (x.streamId.getD 0xFFFFFFFF).toNat ++
            [BitVec.ofNat 8 x.state.code, BitVec.ofNat 8 y.state.code] ++ u16 y.buffer.length)
    x.expected = some e →
    x.state = .filling ∨ x.state = .ready ∨ x.state = .playing ∨ x.state = .starved →
      (d < 64 → (∀ y ∈ x.buffer, y.seq ≠ b.seq) →
        let placed :=
          x.buffer.takeWhile (fun y => decide ((y.seq - e).toNat < d)) ++
            b :: x.buffer.dropWhile (fun y => decide ((y.seq - e).toNat < d))
        let fill := x.buffer.length + 1
        let heard : Slot := { x with buffer := placed, lastAccepted := some s.time }
        let slid : Slot :=
          { heard with
            state := .ready, buffer := placed.drop (fill - k.start),
            expected := match (placed.take (fill - k.start)).getLast? with | some y => some (y.seq + 1) | none => some e }
        let full := k.pacing && decide (k.high ≤ fill)
        s.arrive i l b source =
          arrived
            (match x.state with
              | .filling => if k.start ≤ fill then slid else heard
              | .starved =>
                if k.start ≤ fill then if k.selection = l then { heard with state := .playing } else slid else heard
              | .ready => slid
              | _ => { heard with holding := x.holding || full })
            { live with packetsAccepted := up live.packetsAccepted }
            (if x.state = .playing ∧ x.holding = false ∧ full = true then x.paceHold (fill - k.start) else [])) ∧
      (64 ≤ d → d < 32768 →
        s.arrive i l b source =
          arrived
            { x with state := .filling, holding := false, lastAccepted := some s.time, expected := some b.seq,
                     buffer := [b] }
            { live with packetsAccepted := up live.packetsAccepted, resyncs := up live.resyncs } x.paceGo))

/-- A slot that is FILLING, READY or STARVED and has accepted nothing for 250 ms is LOST: its buffer is emptied, it has no
last accepted time, and STREAM STATE is posted (R23), with the detail of logs 14, 15 and 17. Any other slot stays as it is;
that the timeout waits for its command is the model's choice (log 3). -/
def Obligations.LostAfterTimeout : Prop :=
  ∀ (s : State) (i : ScreenIx) (l : Letter),
    let x := s.slot i l
    let counts := x.state = .filling ∨ x.state = .ready ∨ x.state = .starved
    (∀ since, counts → x.lastAccepted = some since → 250 ≤ (s.time - since).toNat →
      let y : Slot := { x with state := .lost, lastAccepted := none, buffer := [] }
      let c : Screen := { s.scr i with intake := (s.scr i).intake.setSlot l y }
      exec (.lostTimeout i l) s =
        .next (({ s with screens := s.screens.set i c }).post .streamState i
          ([BitVec.ofNat 8 l.code] ++ u32 (x.streamId.getD 0xFFFFFFFF).toNat ++
            [BitVec.ofNat 8 x.state.code, 0x06, 0x00, 0x00]))) ∧
    ((¬ counts ∨ ∀ since, x.lastAccepted = some since → (s.time - since).toNat < 250) →
      exec (.lostTimeout i l) s = .next s)

/-! ### Surround decoding -/

/-- SET_LAYOUT with a consistent layout: one equal to that in force changes nothing; during a switch it is refused STATE; one
whose bands the pool cannot give is refused NO_BANDS; otherwise it takes effect, buses that stay present keep their filter
history and buses that become present begin with none (R28, R29, R75). SET_FORMAT sets the forced format (R32). That an
unchanged layout's reply carries the layout is the model's choice (log 27), and the delay's two bytes are log 15. -/
def Obligations.LayoutAndFormatRequests : Prop :=
  (∀ (s : State) (q : Req) (i : ScreenIx) (mask : Byte) (topology : Topology) (delay : Nat),
    let command : Instr := .setLayout q (i.val + 1) mask topology.code delay
    command.inRange → Served q command s →
      let d := (s.scr i).decoder
      let e := (s.scr i).equaliser
      let reply (payload : List Byte) : Frame := { tag := q.tag, kind := 0x46, payload := payload }
      let ok := reply ([0x00, mask, BitVec.ofNat 8 topology.code] ++ u16 delay)
      let chains : Vector (List BandHistory) 8 :=
        Vector.ofFn (fun b : Fin 8 =>
          if mask.getLsbD b.val then
            if d.mask.getLsbD b.val then e.chains[b]
            else List.replicate (s.contents e.active b).bands.length { x1 := 0, x2 := 0, y1 := 0, y2 := 0 }
          else [])
      let c : Screen :=
        { s.scr i with
          decoder := { d with mask := mask, topology := topology, delay := delay },
          equaliser := { e with chains := chains } }
      exec command s =
        .next
          (if mask = d.mask ∧ topology = d.topology ∧ delay = d.delay then s.beginService.pushPath ok
          else if e.switch ≠ .idle then s.beginService.pushPath (reply [0x08])
          else if s.requirementOver e.active mask ≤ s.requirement i e.active + s.bandsFree then
            ({ s.beginService with screens := s.screens.set i c }).pushPath ok
          else s.beginService.pushPath (reply [0x05]))) ∧
  (∀ (s : State) (q : Req) (i : ScreenIx) (f : Option Format),
    Served q (.setFormat q (i.val + 1) (match f with | none => 0xFE | some x => x.code)) s →
      let c : Screen := { s.scr i with decoder := { (s.scr i).decoder with forced := f } }
      exec (.setFormat q (i.val + 1) (match f with | none => 0xFE | some x => x.code)) s =
        .next (({ s.beginService with screens := s.screens.set i c }).pushPath
          { tag := q.tag, kind := 0x47, payload := [0x00] }))

/-- The dominance of R41 is the nearest whole number to 60 log10 (Ec/Es), held within -120 and 120, with its three corners;
each target of R42 and each steering value of R43 of a MATRIX block follow from it, the derived surround enters the delay
line as R40 says, and a bus behind hears it as late as the delay; a change of format to MATRIX clears the steering and the
line first (R33). For every format the buses are routed as R34 to R39 say, the centre folded into the front pair when bus C
is absent (R38), zeros on absent buses, and all zeros while no format is in force, the channels named as in R34's table
(channel 1 of DISCRETE_8 is C whatever the block's own format: log 45); a change of format posts DECODE FORMAT (R31, R33;
detail: log 14), a change to MATRIX too. -/
def Obligations.MatrixBlockSteers : Prop :=
  (∀ ec es : Nat,
    let d := dominance ec es
    (es = 0 → d = if ec = 0 then 0 else 120) ∧ (es ≠ 0 → ec = 0 → d = -120) ∧ -120 ≤ d ∧ d ≤ 120 ∧
    (0 < es → 0 < ec → -120 < d →
      es ^ 120 * 10 ^ (2 * d - 1).toNat ≤ ec ^ 120 * 10 ^ (1 - 2 * d).toNat) ∧
    (0 < es → 0 < ec → d < 120 →
      ec ^ 120 * 10 ^ (-1 - 2 * d).toNat < es ^ 120 * 10 ^ (2 * d + 1).toNat)) ∧
  (∀ (s : State) (i : ScreenIx) (t : Taken),
    let d := (s.scr i).decoder
    let lt := if t.mask.getLsbD 0 then t.channels[0] else List.replicate 48 0
    let rt := if t.mask.getLsbD 1 then t.channels[1] else List.replicate 48 0
    let centre := List.zipWith (fun x y => (x + y) / 2) lt rt
    let surround := List.zipWith (fun x y => (x - y) / 2) lt rt
    let dom := dominance (energy centre) (energy surround)
    let toward (value target : Int) : Int :=
      if target < value then max target (value - 4) else if value < target then min target (value + 1) else value
    let before : Decoder :=
      if d.inForce = some .matrix then d
      else
        { d with inForce := some .matrix, centre := 0, surround := 0, line := List.replicate 41 (List.replicate 48 0) }
    d.forced = some .matrix ∨
      (d.forced = none ∧ (t.format = some .matrix ∨ (t.format = none ∧ d.inForce = some .matrix))) →
    d.delay ≤ 40 →
      ((s.decode i t).1.scr i).decoder =
        { before with
          line := (surround :: before.line).take 41,
          centre := toward before.centre (if dom < -18 then -(min 60 ((-dom - 18) / 2)) else 0),
          surround := toward before.surround (if 18 < dom then -(min 60 ((dom - 18) / 2)) else 0) } ∧
      (∀ b : Bus, 4 ≤ b.val → d.mask.getLsbD b.val = true →
        (s.decode i t).2[b] = ((surround :: before.line)[d.delay]?).getD (List.replicate 48 0)) ∧
      (d.mask.getLsbD 1 = true → (s.decode i t).2[1] = centre ∧
        (d.mask.getLsbD 0 = true → (s.decode i t).2[0] = lt) ∧ (d.mask.getLsbD 2 = true → (s.decode i t).2[2] = rt)) ∧
      (∀ b : Bus, b = 3 ∨ d.mask.getLsbD b.val = false → (s.decode i t).2[b] = List.replicate 48 0)) ∧
  (∀ (s : State) (i : ScreenIx) (t : Taken),
    let d := (s.scr i).decoder
    let next : Option Format :=
      match d.forced, t.format with
      | some f, _ => some f
      | none, some f => some f
      | none, none => d.inForce
    let zero : List Int := List.replicate 48 0
    let ch (k : Fin 8) : List Int := if t.mask.getLsbD k.val then t.channels[k] else zero
    let mean (a b : List Int) : List Int := List.zipWith (fun x y => (x + y) / 2) a b
    let fold (a c : List Int) : List Int := List.zipWith (fun x y => max (-8388608) (min 8388607 (x + y / 2))) a c
    let present (b : Bus) : Bool := d.mask.getLsbD b.val
    let r := s.decode i t
    let has (b : Bus) (own : List Int) : Prop := r.2[b] = if present b then own else zero
    let front (l c rr : List Int) : Prop :=
      has 0 (if present 1 then l else fold l c) ∧ has 1 c ∧
        has 2 (if present 1 then rr else fold rr c)
    (next = none → ∀ b : Bus, r.2[b] = zero) ∧
    (next = some .mono → front zero (ch 0) zero ∧ ∀ b : Bus, 3 ≤ b.val → r.2[b] = zero) ∧
    (next = some .stereo → has 0 (ch 0) ∧ has 2 (ch 1) ∧ ∀ b : Bus, b = 1 ∨ 3 ≤ b.val → r.2[b] = zero) ∧
    (next = some .matrix → d.mask.getLsbD 1 = false →
      has 0 (fold (ch 0) (mean (ch 0) (ch 1))) ∧ has 2 (fold (ch 1) (mean (ch 0) (ch 1)))) ∧
    (next = some .discrete6 →
      front (ch 0) (ch 1) (ch 2) ∧ has 3 (ch 3) ∧ has 4 (ch 4) ∧ has 5 (ch 5) ∧
        has 6 (if d.topology = .sideRear then ch 4 else zero) ∧ has 7 (if d.topology = .sideRear then ch 5 else zero)) ∧
    (next = some .discrete8 →
      front (ch 0) (ch 1) (ch 2) ∧ has 3 (ch 3) ∧
        (if d.topology = .sideRear then has 4 (ch 4) ∧ has 5 (ch 5) ∧ has 6 (ch 6) ∧ has 7 (ch 7)
        else has 4 (mean (ch 4) (ch 6)) ∧ has 5 (mean (ch 5) (ch 7)) ∧ r.2[6] = zero ∧ r.2[7] = zero)) ∧
    (next ≠ some .matrix →
      r.1 =
        if next = d.inForce then s
        else
          State.post
            { s with
              screens := s.screens.set i
                { s.scr i with decoder :=
                    { d with inForce := next, centre := 0, surround := 0, line := List.replicate 41 zero } } }
            .decodeFormat i
            [BitVec.ofNat 8 (inForceCode d.inForce), BitVec.ofNat 8 (inForceCode next),
              BitVec.ofNat 8 (boolCode d.forced.isSome)]) ∧
    (next = some .matrix →
      let steered : State := { s with screens := s.screens.set i { s.scr i with decoder := (r.1.scr i).decoder } }
      r.1 =
        if d.inForce = some .matrix then steered
        else
          steered.post .decodeFormat i
            [BitVec.ofNat 8 (inForceCode d.inForce), 0x02, BitVec.ofNat 8 (boolCode d.forced.isSome)]))

/-! ### Gain stage -/

/-- SET_FADER aims the fader at the gain of its position cut to the limit, at once or at the rate of its ramp (R49, R50, R51).
SET_LIMIT sets the limit and pulls the target and the current gain down to it (R52). SET_TRIM and SET_MUTE set the clamped
trims and the mute targets of the buses named (R53, R55). Each replies what it leaves and touches no other block. The number
before the trims and the mute targets is log 16, and the order of SET_LIMIT's reply log 31. -/
def Obligations.GainRequests : Prop :=
  let law (p : Nat) : Int :=
    if p = 0 then -480 else if p < 35 then -70 - 9 * (35 - (p : Int)) else 2 * ((p : Int) - 70)
  (∀ (s : State) (q : Req) (i : ScreenIx) (position ramp : Nat), position ≤ 100 → ramp ≤ 60000 →
    Served q (.setFader q (i.val + 1) position ramp) s →
      let g := (s.scr i).gain
      let p := min position g.limit
      let fader : Ramp :=
        if ramp = 0 ∨ g.fader.current = law p then { current := law p, target := law p, rate := 0 }
        else
          { current := g.fader.current, target := law p,
            rate := ((law p - g.fader.current).natAbs + ramp - 1) / ramp }
      let c : Screen := { s.scr i with gain := { g with faderPosition := p, fader := fader } }
      exec (.setFader q (i.val + 1) position ramp) s =
        .next (({ s.beginService with screens := s.screens.set i c }).pushPath
          { tag := q.tag, kind := 0x48, payload := [0x00, BitVec.ofNat 8 p] })) ∧
  (∀ (s : State) (q : Req) (i : ScreenIx) (position : Nat), position ≤ 100 →
    Served q (.setLimit q (i.val + 1) position) s →
      let g := (s.scr i).gain
      let p := min g.faderPosition position
      let fader : Ramp :=
        { g.fader with
          target := if position < g.faderPosition then law position else g.fader.target,
          current := min g.fader.current (law position) }
      let c : Screen := { s.scr i with gain := { g with limit := position, faderPosition := p, fader := fader } }
      exec (.setLimit q (i.val + 1) position) s =
        .next (({ s.beginService with screens := s.screens.set i c }).pushPath
          { tag := q.tag, kind := 0x49, payload := [0x00, BitVec.ofNat 8 position, BitVec.ofNat 8 p] })) ∧
  (∀ (s : State) (q : Req) (i : ScreenIx) (mask : Byte) (trim : Int), Served q (.setTrim q (i.val + 1) mask trim) s →
    let g := (s.scr i).gain
    let trims : Vector Int 8 :=
      Vector.ofFn (fun b : Fin 8 => if mask.getLsbD b.val then max (-72) (min 72 trim) else g.trims[b])
    let c : Screen := { s.scr i with gain := { g with trims := trims } }
    exec (.setTrim q (i.val + 1) mask trim) s =
      .next (({ s.beginService with screens := s.screens.set i c }).pushPath
        { tag := q.tag, kind := 0x4A, payload := 0x00 :: 0x08 :: trims.toList.flatMap s16 })) ∧
  (∀ (s : State) (q : Req) (i : ScreenIx) (mask : Byte) (on : Bool),
    Served q (.setMute q (i.val + 1) mask (boolCode on)) s →
      let g := (s.scr i).gain
      let mutes : Vector Stepped 8 :=
        Vector.ofFn (fun b : Fin 8 =>
          if mask.getLsbD b.val then { g.mutes[b] with target := if on then -480 else 0 } else g.mutes[b])
      let c : Screen := { s.scr i with gain := { g with mutes := mutes } }
      exec (.setMute q (i.val + 1) mask (boolCode on)) s =
        .next (({ s.beginService with screens := s.screens.set i c }).pushPath
          { tag := q.tag, kind := 0x4B, payload := 0x00 :: 0x08 :: mutes.toList.flatMap (fun m : Stepped => s16 m.target) }))

/-- R51, R55 and R56: a term moves toward its target by at most its rate at each boundary and never past it; after enough
boundaries at a rate that is not 0 it stands at the target. At a boundary the fader and the cue offsets step by their own
rates, the mute terms by 24 and the switch term by 60; trims, positions and targets stay. -/
def Obligations.TermsReachTheirTargets : Prop :=
  (∀ (current target : Int) (rate : Nat),
    (stepToward current target rate - current).natAbs ≤ rate ∧
    min current target ≤ stepToward current target rate ∧ stepToward current target rate ≤ max current target ∧
    (0 < rate → ∀ n, (target - current).natAbs ≤ n * rate →
      Nat.repeat (fun v => stepToward v target rate) n current = target) ∧
    (∀ d, 0 < d → Nat.repeat (fun v => stepToward v target (rampRate current target d)) d current = target)) ∧
  (∀ g : Gain,
    let toward (current target : Int) (rate : Nat) : Int :=
      if current < target then min target (current + rate) else max target (current - rate)
    g.step =
      { g with
        fader := { g.fader with current := toward g.fader.current g.fader.target g.fader.rate },
        offsets := Vector.ofFn (fun b : Fin 8 =>
          { g.offsets[b] with current := toward g.offsets[b].current g.offsets[b].target g.offsets[b].rate }),
        mutes := Vector.ofFn (fun b : Fin 8 =>
          { g.mutes[b] with current := toward g.mutes[b].current g.mutes[b].target 24 }),
        switchTerm := { g.switchTerm with current := toward g.switchTerm.current g.switchTerm.target 60 } })

/-- R59: the multiplier of a total gain T is the nearest whole number to 2^20 times 10^(T/120): its half-step neighbours,
raised to the 120th power, lie on either side of the exact value's, for every T that is scaled. -/
def Obligations.MultiplierIsNearest : Prop :=
  ∀ total : Int, -480 < total → total ≤ 72 →
    let m := multiplier total
    (2 * m - 1) ^ 120 * 10 ^ (-total).toNat ≤ (2 ^ 21) ^ 120 * 10 ^ total.toNat ∧
    (2 ^ 21) ^ 120 * 10 ^ total.toNat < (2 * m + 1) ^ 120 * 10 ^ (-total).toNat

/-- R57, R58, R60 and R61 for one bus: an absent bus, a total of -480, a fader, a mute or a switch term at -480 give zeros
and no clip; otherwise each sample is scaled by the multiplier, rounded half up and saturated, and the clip flag is raised
when the equaliser raised it or a scaled sample lies outside the range. At a total of 0 dB samples pass unchanged. At a
boundary the terms step first, each bus is gained with the guard and the steering values handed in, the lane is given the
eight blocks, and a boundary with a clip on any bus raises the clip blocks counter by one (R47, R51, R61, R62). -/
def Obligations.OutputSampleLaw : Prop :=
  (∀ (g : Gain) (d : Decoder) (guard centre surround : Int) (e : Equalised) (b : Bus),
    let steering := if b.val = 1 then centre else if 4 ≤ b.val then surround else 0
    let raw :=
      g.fader.current + g.trims[b] + g.offsets[b].current + e.offsets[b] + guard + steering + g.mutes[b].current +
        g.switchTerm.current
    let total := max (-480) (min 72 raw)
    let silent :=
      d.mask.getLsbD b.val = false ∨ total = -480 ∨ g.fader.current = -480 ∨ g.mutes[b].current = -480 ∨
        g.switchTerm.current = -480
    let exact (x : Int) : Int := (2 * (x * multiplier total) + 2 ^ 20) / 2 ^ 21
    let out := gainBus g d guard centre surround e b
    (silent → out = (List.replicate 48 0, false)) ∧
    (¬ silent →
      out.1 = (e.out[b].map exact).map (fun v => max (-8388608) (min 8388607 v)) ∧
      (out.2 = true ↔
        e.clips[b] = true ∨ ∃ x ∈ e.out[b], exact x < -8388608 ∨ 8388607 < exact x)) ∧
    (¬ silent → total = 0 → (∀ x ∈ e.out[b], -8388608 ≤ x ∧ x ≤ 8388607) → out = (e.out[b], e.clips[b]))) ∧
  (∀ (s : State) (i : ScreenIx) (centre surround : Int) (e : Equalised),
    let c := s.scr i
    let bus (b : Fin 8) := gainBus c.gain.step c.decoder c.guard.value centre surround e b
    s.gainStage i centre surround e =
      ({ s with
        screens := s.screens.set i
          { c with
            gain := c.gain.step, lane := Vector.ofFn (fun b => (bus b).1),
            live :=
              if ∃ b : Fin 8, (bus b).2 = true then
                { c.live with clipBlocks := min (c.live.clipBlocks + 1) 4294967295 }
              else c.live } },
        Vector.ofFn (fun b => (bus b).2)))

/-! ### Equaliser -/

/-- LOAD_PRESET fills a library slot that no screen names: each bus of the mask takes the contents given for it, the others
keep theirs (ADD) or have none (NEW); ADD to an EMPTY slot is refused NOT_FOUND, a slot in use IN_USE, and an unstable band
is refused by its bus and index (R67, R68). DROP_PRESET empties a slot that no screen names (R69). The index's one byte is
log 15, and the number before the band counts log 16. -/
def Obligations.PresetLibraryRequests : Prop :=
  let inUse (s : State) (p : PresetIx) : Prop :=
    ∃ i, (s.scr i).equaliser.active = some p ∨ (s.scr i).equaliser.incoming = some (some p) ∨
      (s.scr i).equaliser.waiting = some (some p)
  let sound (x : Band) : Prop := x.a2.natAbs < 4194304 ∧ (x.a1.natAbs : Int) < 4194304 + x.a2
  (∀ (s : State) (q : Req) (p : PresetIx) (add : Bool) (mask : Byte) (buses : List BusContents),
    let command : Instr := .loadPreset q (p.val + 1) (boolCode add) mask buses
    let reply (payload : List Byte) : Frame := { tag := q.tag, kind := 0x4C, payload := payload }
    command.inRange → Served q command s → (∀ c ∈ buses, ∀ x ∈ c.bands, sound x) →
      (add = true ∧ s.library[p] = none → exec command s = .next (s.beginService.pushPath (reply [0x07]))) ∧
      (¬ (add = true ∧ s.library[p] = none) → inUse s p →
        exec command s = .next (s.beginService.pushPath (reply [0x06]))) ∧
      (¬ (add = true ∧ s.library[p] = none) → ¬ inUse s p →
        ∃ x : Preset,
          exec command s =
            .next (({ s.beginService with library := s.library.set p (some x) }).pushPath
              (reply ([0x00] ++ u16 (p.val + 1) ++ [0x08] ++
                x.buses.toList.flatMap (fun c : BusContents => u16 c.bands.length)))) ∧
          ∀ b : Bus,
            (mask.getLsbD b.val = true → buses[channelsBelow mask b.val]? = some x.buses[b]) ∧
            (mask.getLsbD b.val = false →
              x.buses[b] = if add then s.contents (some p) b else { offset := 0, bands := [] }))) ∧
  (∀ (s : State) (q : Req) (p : PresetIx) (add : Bool) (mask : Byte) (buses : List BusContents) (b : Bus) (k : Nat)
    (c : BusContents) (x : Band),
    let command : Instr := .loadPreset q (p.val + 1) (boolCode add) mask buses
    command.inRange → Served q command s →
    mask.getLsbD b.val = true → buses[channelsBelow mask b.val]? = some c → c.bands[k]? = some x → ¬ sound x →
    (∀ c' ∈ buses.take (channelsBelow mask b.val), ∀ y ∈ c'.bands, sound y) → (∀ y ∈ c.bands.take k, sound y) →
      exec command s = .next (s.beginService.pushPath
        { tag := q.tag, kind := 0x4C, payload := [0x02, BitVec.ofNat 8 b.val, BitVec.ofNat 8 k] })) ∧
  (∀ (s : State) (q : Req) (p : PresetIx), Served q (.dropPreset q (p.val + 1)) s →
    let reply (payload : List Byte) : Frame := { tag := q.tag, kind := 0x4D, payload := payload }
    (inUse s p → exec (.dropPreset q (p.val + 1)) s = .next (s.beginService.pushPath (reply [0x06]))) ∧
    (¬ inUse s p →
      exec (.dropPreset q (p.val + 1)) s =
        .next (({ s.beginService with library := s.library.set p none }).pushPath (reply [0x00]))))

/-- The table of R76 in its order: the active preset again, a crossfade when the pool's free count holds the whole
requirement, a cut when it holds it once the old one is given back, else NO_BANDS; the reply's free count is what is left.
An EMPTY slot is refused NOT_FOUND, and a screen or preset field out of range BAD_ARG. A selection during a switch waits,
and one it displaces posts PRESET REPLACED (R82). The free count's two bytes are log 15, and that the record and its notice
stand before the reply is log 13. -/
def Obligations.SelectPresetByTable : Prop :=
  (∀ (s : State) (q : Req) (i : ScreenIx) (target : Target),
    let command : Instr := .selectPreset q (i.val + 1) (match target with | none => 0 | some p => p.val + 1)
    Served q command s →
      let e := (s.scr i).equaliser
      let g := (s.scr i).gain
      let old := s.requirement i e.active
      let new := s.requirement i target
      let free := s.bandsFree
      let reply (method : Byte) (left : Nat) : Frame :=
        { tag := q.tag, kind := 0x4E, payload := [0x00, method] ++ u16 left }
      let refusal (status : Byte) : Frame := { tag := q.tag, kind := 0x4E, payload := [status] }
      let put (c : Screen) : State := { s.beginService with screens := s.screens.set i c }
      let crossing : Equaliser :=
        { e with
          switch := .crossfade, incoming := some target, count := 0,
          inChains := Vector.ofFn (fun b : Fin 8 =>
            if (s.scr i).decoder.mask.getLsbD b.val then
              List.replicate (s.contents target b).bands.length { x1 := 0, x2 := 0, y1 := 0, y2 := 0 }
            else []) }
      let cutting : Equaliser :=
        { e with switch := .cut, incoming := some target, phase := some .fadeOut, delta := new - old }
      let waiting : State := put { s.scr i with equaliser := { e with waiting := some target } }
      ((∃ p, target = some p ∧ s.library[p] = none) → exec command s = .next (s.beginService.pushPath (refusal 0x07))) ∧
      ((∀ p, target = some p → s.library[p] ≠ none) → e.switch = .idle →
        exec command s =
          .next
            (if target = e.active then s.beginService.pushPath (reply 0x00 free)
            else if new ≤ free then (put { s.scr i with equaliser := crossing }).pushPath (reply 0x01 (free - new))
            else if new ≤ free + old then
              (put { s.scr i with
                equaliser := cutting, gain := { g with switchTerm := { g.switchTerm with target := -480 } } }).pushPath
                (reply 0x02 (free - (new - old)))
            else s.beginService.pushPath (refusal 0x05))) ∧
      ((∀ p, target = some p → s.library[p] ≠ none) → e.switch ≠ .idle →
        exec command s =
          .next
            ((match e.waiting with
              | none => waiting
              | some displaced => waiting.post .presetReplaced i (targetField displaced ++ targetField target)).pushPath
              (reply 0x03 free)))) ∧
  (∀ (s : State) (q : Req) (n preset : Nat), ¬ (1 ≤ n ∧ n ≤ 8 ∧ preset ≤ 32) → Served q (.selectPreset q n preset) s →
    exec (.selectPreset q n preset) s =
      .next (s.beginService.pushPath { tag := q.tag, kind := 0x4E, payload := [0x02] }))

/-- The arithmetic of a band (R74): the exact accumulation, divided by 2^22, rounded half up and saturated; the history
moves by one sample; a block of one sample gives that sample's output, history and mark, and a block cut in two what the
whole block gives; each term is at most 2^46 in magnitude and the sum fits in 56 bits; the band that is 1 passes every
sample; and a crossfade (R78) hears the old preset at count 0, the new one at 32, and never leaves the range between them. A
chain runs its bands in list order, each on the output of the one before, an empty chain passes its samples, and one band
that saturates marks the block (R73). At a boundary each present bus runs the active chain and, in a crossfade, the incoming
one, mixed at the count advanced by 1; an absent bus gives zeros; the offsets handed on are the active preset's, or in a
crossfade the mix of both (R73, R78, R79). -/
def Obligations.BandIsDirectForm : Prop :=
  (∀ (c : Band) (h : BandHistory) (x : Int),
    let acc := c.b0 * x + c.b1 * h.x1 + c.b2 * h.x2 - c.a1 * h.y1 - c.a2 * h.y2
    let exact := (2 * acc + 2 ^ 22) / 2 ^ 23
    let y := max (-8388608) (min 8388607 exact)
    let after : BandHistory := { x1 := x, x2 := h.x1, y1 := y, y2 := h.y1 }
    biquadSample c h x = (y, after, decide (y ≠ exact)) ∧ runBand c h [x] = ([y], after, decide (y ≠ exact)) ∧
      runBand c h [] = ([], h, false)) ∧
  (∀ (c : Band) (h : BandHistory) (x : Int),
    let fits (v : Int) : Prop := -8388608 ≤ v ∧ v ≤ 8388607
    fits c.b0 → fits c.b1 → fits c.b2 → fits c.a1 → fits c.a2 → fits x → fits h.x1 → fits h.x2 → fits h.y1 → fits h.y2 →
      (∀ term ∈ [c.b0 * x, c.b1 * h.x1, c.b2 * h.x2, c.a1 * h.y1, c.a2 * h.y2], term.natAbs ≤ 2 ^ 46) ∧
        -(2 ^ 55) ≤ c.b0 * x + c.b1 * h.x1 + c.b2 * h.x2 - c.a1 * h.y1 - c.a2 * h.y2 ∧
        c.b0 * x + c.b1 * h.x1 + c.b2 * h.x2 - c.a1 * h.y1 - c.a2 * h.y2 < 2 ^ 55) ∧
  (∀ (h : BandHistory) (xs : List Int), (∀ x ∈ xs, -8388608 ≤ x ∧ x ≤ 8388607) →
    let r := runBand { b0 := 4194304, b1 := 0, b2 := 0, a1 := 0, a2 := 0 } h xs
    r.1 = xs ∧ r.2.2 = false) ∧
  (∀ (c : Band) (h : BandHistory) (xs ys : List Int),
    let one := runBand c h xs
    let two := runBand c one.2.1 ys
    runBand c h (xs ++ ys) = (one.1 ++ two.1, two.2.1, one.2.2 || two.2.2) ∧ one.1.length = xs.length) ∧
  (∀ (k : Nat) (old new : Int), k ≤ 32 →
    mixAt 0 old new = old ∧ mixAt 32 old new = new ∧ min old new ≤ mixAt k old new ∧ mixAt k old new ≤ max old new) ∧
  (∀ xs : List Int,
    runChain [] [] xs = (xs, [], false) ∧
    (∀ (c : Band) (h : BandHistory),
      let one := runBand c h xs
      runChain [c] [h] xs = (one.1, [one.2.1], one.2.2)) ∧
    ∀ (cs ds : List Band) (hs ks : List BandHistory), hs.length = cs.length →
      let one := runChain cs hs xs
      let two := runChain ds ks one.1
      runChain (cs ++ ds) (hs ++ ks) xs = (two.1, one.2.1 ++ two.2.1, one.2.2 || two.2.2)) ∧
  (∀ (s : State) (i : ScreenIx) (buses : Vector (List Int) 8),
    let c := s.scr i
    let e := c.equaliser
    let fading := e.switch = .crossfade
    let k := if fading then e.count + 1 else e.count
    let contents (p : Target) (b : Fin 8) : BusContents :=
      match p with
      | none => { offset := 0, bands := [] }
      | some p => match s.library[p] with | none => { offset := 0, bands := [] } | some x => x.buses[b]
    let present (b : Fin 8) : Bool := c.decoder.mask.getLsbD b.val
    let old (b : Fin 8) := runChain (contents e.active b).bands e.chains[b] buses[b]
    let new (b : Fin 8) := runChain (contents (e.incoming.getD none) b).bands e.inChains[b] buses[b]
    let mix (x y : Int) : Int := ((32 - (k : Int)) * x + k * y) / 32
    s.equalise i buses =
      ({ s with
        screens := s.screens.set i
          { c with equaliser :=
              { e with
                count := k,
                chains := Vector.ofFn (fun b => if present b then (old b).2.1 else e.chains[b]),
                inChains := Vector.ofFn (fun b => if present b = true ∧ fading then (new b).2.1 else e.inChains[b]) } } },
        { out := Vector.ofFn (fun b =>
            if present b then if fading then List.zipWith mix (old b).1 (new b).1 else (old b).1
            else List.replicate 48 0),
          clips := Vector.ofFn (fun b => present b && ((old b).2.2 || (decide fading && (new b).2.2))),
          offsets := Vector.ofFn (fun b =>
            if fading then mix (contents e.active b).offset (contents (e.incoming.getD none) b).offset
            else (contents e.active b).offset) }))

/-- A crossfade whose 32nd block this is completes: the incoming preset is the active one and alone holds bands (R78). The
fade-out of a cut that arrives at -480 swaps: the target is active, its delta reservation ends, the block is silent and the
fade-in begins; a fade-in that returns to 0 completes the cut (R80, R81). The screen has no cues and an empty immediate
slot, so that nothing selects a preset at the same boundary. The command is the boundary at which it happens (log 1). A
target that waits is decided at the completion by the table of R76, on the state the completion left (R83); a completion
posts PRESET DONE, and a waiting target that fits neither way PRESET REFUSED (R85; details: logs 14 and 15). What a boundary
does with a switch in progress is the crossfade's completion at count 32, else the swap at the arrival at -480 in FADE_OUT,
else the cut's completion at 0 in FADE_IN, else nothing (R78, R80, R81; log 12); a swap starts every chain of the target
without history (R75). -/
def Obligations.SwitchEventsAtTheirBoundary : Prop :=
  (∀ (s : State) (i : ScreenIx),
    let e := (s.scr i).equaliser
    let term := (s.scr i).gain.switchTerm
    (s.scr i).cues = [] → (s.scr i).immediate = .empty →
      (∀ p, e.switch = .crossfade → 31 ≤ e.count → e.incoming = some p → e.waiting = none →
        ∃ t, exec (.crossfadeComplete i) s = .next t ∧
          (t.scr i).equaliser.active = p ∧ (t.scr i).equaliser.incoming = none ∧
          (t.scr i).equaliser.waiting = none ∧ (t.scr i).equaliser.switch = .idle ∧
          t.bandsHeld i = t.requirement i p ∧ t.library = s.library) ∧
      (∀ p, e.switch = .cut → e.phase = some .fadeOut → e.incoming = some p → term.target = -480 →
        -480 ≤ term.current → term.current ≤ -420 →
        ∃ t, exec (.cutSwap i) s = .next t ∧
          (t.scr i).equaliser.active = p ∧ (t.scr i).equaliser.incoming = none ∧ (t.scr i).equaliser.delta = 0 ∧
          (t.scr i).equaliser.switch = .cut ∧ (t.scr i).equaliser.phase = some .fadeIn ∧
          (t.scr i).equaliser.waiting = e.waiting ∧ (t.scr i).gain.switchTerm = { current := -480, target := 0 } ∧
          (∀ b : Bus, (t.scr i).lane[b] = List.replicate 48 0)) ∧
      (e.switch = .cut → e.phase = some .fadeIn → e.waiting = none → term.target = 0 → -60 ≤ term.current →
        term.current ≤ 0 →
        ∃ t, exec (.cutComplete i) s = .next t ∧
          (t.scr i).equaliser.active = e.active ∧ (t.scr i).equaliser.switch = .idle ∧
          (t.scr i).equaliser.phase = none ∧ (t.scr i).gain.switchTerm = { current := 0, target := 0 })) ∧
  (∀ (s : State) (i : ScreenIx),
    let c := s.scr i
    let e := c.equaliser
    s.crossfadeDone i =
      State.presetCompleted
        { s with
          screens := s.screens.set i
            { c with equaliser :=
                { e with active := e.incoming.getD none, incoming := none, count := 0, switch := .idle, chains := e.inChains,
                         inChains := Vector.replicate 8 [] } } }
        i 0x01 e.active ∧
    s.cutDone i =
      State.presetCompleted
        { s with screens := s.screens.set i { c with equaliser := { e with switch := .idle, phase := none, left := none } } }
        i 0x02 e.left) ∧
  (∀ (s : State) (i : ScreenIx) (p q : Target),
    let e := (s.scr i).equaliser
    let term := (s.scr i).gain.switchTerm
    let completed : State :=
      { s with
        screens := s.screens.set i
          { s.scr i with equaliser := { e with active := p, incoming := none, waiting := none, switch := .idle } } }
    let old := completed.requirement i p
    let new := completed.requirement i q
    let decided (command : Instr) : Prop :=
      ∃ t, exec command s = .next t ∧
        let f := (t.scr i).equaliser
        f.active = p ∧ f.waiting = none ∧ t.library = s.library ∧
          if q = p then f.switch = .idle
          else if new ≤ completed.bandsFree then f.switch = .crossfade ∧ f.incoming = some q ∧ f.count = 0
          else if new ≤ completed.bandsFree + old then
            f.switch = .cut ∧ f.phase = some .fadeOut ∧ f.incoming = some q ∧ f.delta = new - old ∧
              (t.scr i).gain.switchTerm.target = -480
          else f.switch = .idle
    (s.scr i).cues = [] → (s.scr i).immediate = .empty → e.waiting = some q →
      (e.switch = .crossfade → 31 ≤ e.count → e.incoming = some p → decided (.crossfadeComplete i)) ∧
      (e.switch = .cut → e.phase = some .fadeIn → e.active = p → term.target = 0 → -60 ≤ term.current →
        term.current ≤ 0 → decided (.cutComplete i))) ∧
  (∀ (s : State) (i : ScreenIx),
    let c := s.scr i
    let e := c.equaliser
    let term := c.gain.switchTerm
    let target := e.incoming.getD none
    let bands (b : Fin 8) : Nat :=
      match target with
      | none => 0
      | some p => match s.library[p] with | none => 0 | some x => x.buses[b].bands.length
    s.switchProgress i =
      (if e.switch = .crossfade ∧ 32 ≤ e.count then s.crossfadeDone i
      else if e.switch = .cut ∧ e.phase = some .fadeOut ∧ term.current = -480 then s.swapCut i
      else if e.switch = .cut ∧ e.phase = some .fadeIn ∧ term.current = 0 then s.cutDone i
      else s) ∧
    s.swapCut i =
      { s with
        screens := s.screens.set i
          { c with
            equaliser :=
              { e with
                active := target, incoming := none, delta := 0, phase := some .fadeIn, left := e.active,
                chains := Vector.ofFn (fun b : Fin 8 =>
                  if c.decoder.mask.getLsbD b.val then List.replicate (bands b) { x1 := 0, x2 := 0, y1 := 0, y2 := 0 }
                  else []) },
            gain := { c.gain with switchTerm := { term with target := 0 } } } })

/-! ### Meters -/

/-- R93: the level of n intervals is the nearest whole number to 100 log10 of their mean square against full scale, never
below -1,200, which it is for a mean square of 0 and for no interval; for every sum that n intervals of seven buses can
hold. -/
def Obligations.LevelIsNearest : Prop :=
  ∀ sum n : Nat, sum ≤ 7 * 480 * n * 2 ^ 46 →
    let r := levelOf sum n
    let full := 480 * n * 2 ^ 46
    (sum = 0 ∨ n = 0 → r = -1200) ∧ -1200 ≤ r ∧
    (-1200 < r → full ^ 200 * 10 ^ (2 * r - 1).toNat ≤ sum ^ 200 * 10 ^ (1 - 2 * r).toNat) ∧
    (0 < sum → 0 < n → sum ^ 200 * 10 ^ (-1 - 2 * r).toNat < full ^ 200 * 10 ^ (2 * r + 1).toNat)

/-- SET_METER sets the total window's length, emptying the window when it changes, and the clamped calibration (R97). At the
tenth boundary the interval closes: the total window takes the seven buses' energies and each bus window its own, the oldest
leaving full windows; the levels published are those of the windows; the accumulators and the count return to 0 (R89 to R93,
R95, R96). A boundary that closes nothing adds each bus's block energy to its accumulator, enters its clip flag as the
newest of at most 100, and leaves the windows and the readings (R89, R95). The command is the boundary of that close (log
1). The widths and the order of SET_METER's reply are logs 15 and 31. -/
def Obligations.MeterRequestAndClose : Prop :=
  (∀ (s : State) (q : Req) (i : ScreenIx) (window : Nat) (calibration : Int), 10 ≤ window → window ≤ 6000 →
    Served q (.setMeter q (i.val + 1) window calibration) s →
      let m := (s.scr i).meters
      let held := max 600 (min 1400 calibration)
      let c : Screen :=
        { s.scr i with
          meters := { m with ring := if window = m.window then m.ring else [], window := window, calibration := held } }
      exec (.setMeter q (i.val + 1) window calibration) s =
        .next (({ s.beginService with screens := s.screens.set i c }).pushPath
          { tag := q.tag, kind := 0x4F, payload := 0x00 :: u16 window ++ s16 held })) ∧
  (∀ (s : State) (i : ScreenIx), 9 ≤ (s.scr i).meters.boundaryCount →
    ∃ t, exec (.intervalClose i) s = .next t ∧
      let m := (s.scr i).meters
      let m' := (t.scr i).meters
      let energyOf (b : Bus) : Nat := m.accumulators[b] + ((t.scr i).lane[b].map (fun y => (y * y).toNat)).sum
      let last {α : Type} (n : Nat) (l : List α) : List α := l.drop (l.length - n)
      m'.boundaryCount = 0 ∧ (∀ b : Bus, m'.accumulators[b] = 0) ∧
      (1 ≤ m.window →
        m'.ring = last m.window (m.ring ++
          [energyOf 0 + energyOf 1 + energyOf 2 + energyOf 4 + energyOf 5 + energyOf 6 + energyOf 7])) ∧
      (∀ b : Bus, m'.busWindows[b] = last 100 (m.busWindows[b] ++ [energyOf b])) ∧
      m'.totalIntervals = m'.ring.length ∧ m'.totalLevel = levelOf m'.ring.sum m'.ring.length ∧
      (∀ b : Bus, m'.busLevels[b] = levelOf m'.busWindows[b].sum m'.busWindows[b].length ∧
        m'.clipCounts[b] = (m'.clipHistories[b].filter (fun c => c)).length) ∧
      m'.window = m.window ∧ m'.calibration = m.calibration) ∧
  (∀ (m : Meters) (lane : Vector (List Int) 8) (clips : Vector Bool 8),
    m.block lane clips =
      { m with
        accumulators := Vector.ofFn (fun b : Fin 8 => m.accumulators[b] + (lane[b].map (fun y => (y * y).toNat)).sum),
        clipHistories := Vector.ofFn (fun b : Fin 8 =>
          (m.clipHistories[b] ++ [clips[b]]).drop (m.clipHistories[b].length + 1 - 100)),
        boundaryCount := m.boundaryCount + 1 }) ∧
  (∀ (s : State) (i : ScreenIx),
    ∃ t, exec (.blockBoundary i) s = .next t ∧ ∃ clips : Vector Bool 8,
      (∀ b : Bus, (t.scr i).meters.clipHistories[b] =
        ((s.scr i).meters.clipHistories[b] ++ [clips[b]]).drop ((s.scr i).meters.clipHistories[b].length + 1 - 100)) ∧
      (t.scr i).live.clipBlocks =
        (if ∃ b : Fin 8, clips[b] = true then min ((s.scr i).live.clipBlocks + 1) 4294967295
        else (s.scr i).live.clipBlocks) ∧
      ((s.scr i).meters.boundaryCount < 9 → (t.scr i).meters = (s.scr i).meters.block (t.scr i).lane clips))

/-! ### The block boundary -/

/-- The take (R18 to R22). From a PLAYING slot that the selection names: the block expected is played, and the low watermark
ends a holding; a gap is concealed, the buffer kept; an empty buffer starves the slot and conceals, or fails over to slot B
where the policy and slot B allow it. What conceals a first missing block is the faded repeat of R20, else zeros. That a
failover leaves slot A's expected sequence where it was is the model's choice (log 18). A staged selection is applied first,
the slot that was named leaving PLAYING, and the slot then named becomes PLAYING if it is READY (R18). From a slot in
another state nothing is played: a STARVED slot's expected sequence advances past the block that falls due, and fails over
if it may (R21, R22). With no block ever taken the concealed block carries no format and zero samples (R20). A starve posts
STREAM STATE of the slot, and a failover STREAM STATE of slot A when it starves at this take, STREAM FAILOVER with the two
slots and the position of the block taken, and STREAM STATE of slot B, in that order (R5, R22). The records' details are
logs 14 and 15, and the bytes of the pace messages log 30. -/
def Obligations.TakeFromPlayingSlot : Prop :=
  (∀ (s : State) (i : ScreenIx) (l : Letter) (e : Seq),
    let k := (s.scr i).intake
    let x := s.slot i l
    let r := s.take i
    let k' := (r.1.scr i).intake
    let y := r.1.slot i l
    let live := (s.scr i).live
    let live' := (r.1.scr i).live
    let up (n : Nat) : Nat := min (n + 1) 4294967295
    let repeated (b : Block) : Taken :=
      { real := false, position := none, format := some b.format, mask := b.mask,
        channels := b.channels.map (fun c =>
          if k.followingReal = true ∧ k.policy ≠ .silence then c.mapIdx (fun n v => v * (47 - (n : Int)) / 48)
          else c.map (fun _ => 0)) }
    let fails := k.policy = .failover ∧ l = .a ∧ k.slotB.state = .ready ∧ k.slotB.buffer ≠ []
    k.selection = l → k.staged = l → x.state = .playing → x.expected = some e →
      (∀ b rest, x.buffer = b :: rest → b.seq = e →
        r.2 = { real := true, position := b.position, format := some b.format, mask := b.mask,
                channels := b.channels } ∧
        y = { x with buffer := rest, expected := some (e + 1),
                     holding := x.holding && decide (k.low < rest.length) } ∧
        k'.lastTaken = some b ∧ k'.followingReal = true ∧ live' = live ∧ r.1.queue = s.queue ∧
        r.1.paceOut = s.paceOut ++ (if rest.length ≤ k.low then x.paceGo else [])) ∧
      (∀ b rest last, x.buffer = b :: rest → b.seq ≠ e → k.lastTaken = some last →
        r.2 = repeated last ∧ y.buffer = x.buffer ∧ y.expected = some (e + 1) ∧ y.state = .playing ∧
        k'.lastTaken = k.lastTaken ∧ k'.followingReal = false ∧
        live' = { live with blocksConcealed := up live.blocksConcealed }) ∧
      (∀ last, x.buffer = [] → ¬ fails → k.lastTaken = some last →
        r.2 = repeated last ∧ y = { x with state := .starved, expected := some (e + 1), holding := false } ∧
        k'.followingReal = false ∧ r.1.paceOut = s.paceOut ++ x.paceGo ∧
        live' = { live with blocksConcealed := up live.blocksConcealed, underruns := up live.underruns }) ∧
      (∀ b rest, x.buffer = [] → fails → k.slotB.buffer = b :: rest →
        r.2 = { real := true, position := b.position, format := some b.format, mask := b.mask,
                channels := b.channels } ∧
        k'.selection = .b ∧ k'.staged = .b ∧ k'.slotB.state = .playing ∧ k'.slotB.buffer = rest ∧
        k'.slotB.expected = some (b.seq + 1) ∧ y = { x with state := .starved, holding := false } ∧
        live' = { live with underruns := up live.underruns, failovers := up live.failovers })) ∧
  (∀ (s : State) (i : ScreenIx),
    let k := (s.scr i).intake
    let l := k.selection
    let x := s.slot i l
    let put (y : Slot) (chosen : Letter) : State :=
      { s with screens := s.screens.set i { s.scr i with intake := { k.setSlot l y with selection := chosen } } }
    let told (u : State) (state : SlotState) (fill : Nat) : State :=
      u.post .streamState i
        ([BitVec.ofNat 8 l.code] ++ u32 (x.streamId.getD 0xFFFFFFFF).toNat ++
          [BitVec.ofNat 8 x.state.code, BitVec.ofNat 8 state.code] ++ u16 fill)
    (k.staged ≠ l → x.state ≠ .playing → s.take i = (put x k.staged).take i) ∧
    (k.staged ≠ l → x.state = .playing → x.buffer.length < k.start →
      s.take i =
        (told { put { x with state := .filling, holding := false } k.staged with paceOut := s.paceOut ++ x.paceGo } .filling
          x.buffer.length).take i) ∧
    (k.staged ≠ l → x.state = .playing → k.start ≤ x.buffer.length →
      let gone := x.buffer.length - k.start
      let y : Slot :=
        { x with
          state := .ready, holding := false, buffer := x.buffer.drop gone,
          expected := match (x.buffer.take gone).getLast? with | some b => some (b.seq + 1) | none => x.expected }
      s.take i = (told { put y k.staged with paceOut := s.paceOut ++ x.paceGo } .ready k.start).take i) ∧
    (k.staged = l → x.state = .ready →
      s.take i = (told (put { x with state := .playing } l) .playing x.buffer.length).take i)) ∧
  (∀ (s : State) (i : ScreenIx),
    let k := (s.scr i).intake
    let x := s.slot i k.selection
    let live := (s.scr i).live
    let up (n : Nat) : Nat := min (n + 1) 4294967295
    let repeated : Taken :=
      match k.lastTaken with
      | none => { real := false, position := none, format := none, mask := 0, channels := Vector.replicate 8 [] }
      | some b =>
        { real := false, position := none, format := some b.format, mask := b.mask,
          channels := b.channels.map (fun c =>
            if k.followingReal = true ∧ k.policy ≠ .silence then c.mapIdx (fun n v => v * (47 - (n : Int)) / 48)
            else c.map (fun _ => 0)) }
    let concealed (y : Slot) (live : Counters) : State :=
      { s with
        screens := s.screens.set i
          { s.scr i with
            intake := { k.setSlot k.selection y with followingReal := false },
            live := { live with blocksConcealed := up live.blocksConcealed } } }
    k.staged = k.selection →
      (x.state = .empty ∨ x.state = .waiting ∨ x.state = .filling ∨ x.state = .lost →
        s.take i = (concealed x live, repeated)) ∧
      (∀ e, x.state = .starved → x.expected = some e →
        ¬ (k.policy = .failover ∧ k.selection = .a ∧ k.slotB.state = .ready ∧ k.slotB.buffer ≠ []) →
        s.take i =
          (match x.buffer with
            | [] => concealed { x with expected := some (e + 1) } live
            | b :: rest =>
              if b.seq = e then
                concealed { x with expected := some (e + 1), buffer := rest } { live with late := up live.late }
              else concealed { x with expected := some (e + 1) } live,
            repeated)) ∧
      (∀ b rest, x.state = .starved → k.policy = .failover → k.selection = .a → k.slotB.state = .ready →
        k.slotB.buffer = b :: rest →
        let r := s.take i
        let k' := (r.1.scr i).intake
        r.2 = { real := true, position := b.position, format := some b.format, mask := b.mask, channels := b.channels } ∧
          k' = { k with
            selection := .b, staged := .b, lastTaken := some b, followingReal := true,
            slotB := { k.slotB with state := .playing, expected := some (b.seq + 1), buffer := rest } } ∧
          (r.1.scr i).live = { live with failovers := up live.failovers } ∧
          r.1.paceOut = s.paceOut) ∧
      (x.state = .playing → x.buffer = [] → k.lastTaken = none →
        ¬ (k.policy = .failover ∧ k.selection = .a ∧ k.slotB.state = .ready ∧ k.slotB.buffer ≠ []) →
        (s.take i).2 = repeated) ∧
      (∀ e b rest, x.state = .playing → x.expected = some e → x.buffer = b :: rest → b.seq ≠ e →
        let r := s.take i
        let y := r.1.slot i k.selection
        r.2 = repeated ∧ r.1.queue = s.queue ∧
          y = { x with expected := some (e + 1), holding := x.holding && decide (k.low < x.buffer.length) } ∧
          r.1.paceOut = s.paceOut ++ (if x.buffer.length ≤ k.low then x.paceGo else []) ∧
          (r.1.scr i).live = { live with blocksConcealed := up live.blocksConcealed }) ∧
      (let known (y : Slot) : List Byte := u32 (y.streamId.getD 0xFFFFFFFF).toNat
      let fails := k.policy = .failover ∧ k.selection = .a ∧ k.slotB.state = .ready
      let starve : List Byte :=
        [BitVec.ofNat 8 k.selection.code] ++ known x ++
          [BitVec.ofNat 8 SlotState.playing.code, BitVec.ofNat 8 SlotState.starved.code] ++ u16 0
      let failedOver (y : Slot) (b : Block) (live : Counters) (pace : List EthernetFrame) (u : State) : State × Taken :=
        let done : State :=
          { s with
            screens := s.screens.set i
              { s.scr i with
                intake :=
                  { k with
                    selection := .b, staged := .b, lastTaken := some b, followingReal := true, slotA := y,
                    slotB := { k.slotB with state := .playing, expected := some (b.seq + 1), buffer := k.slotB.buffer.tail } },
                live := { live with failovers := up live.failovers } },
            paceOut := s.paceOut ++ pace, queue := u.queue, port := u.port }
        ((done.post .streamFailover i ([0x00, 0x01] ++ u32 (b.position.getD 4294967295))).post .streamState i
            ([0x01] ++ known k.slotB ++
              [BitVec.ofNat 8 SlotState.ready.code, BitVec.ofNat 8 SlotState.playing.code] ++ u16 k.slotB.buffer.length),
          { real := true, position := b.position, format := some b.format, mask := b.mask, channels := b.channels })
      (∀ e, x.state = .playing → x.expected = some e → x.buffer = [] → ¬ (fails ∧ k.slotB.buffer ≠ []) →
        let done :=
          concealed { x with state := .starved, expected := some (e + 1), holding := false }
            { live with underruns := up live.underruns }
        s.take i = ({ done with paceOut := s.paceOut ++ x.paceGo }.post .streamState i starve, repeated)) ∧
      (∀ b rest, x.state = .playing → x.buffer = [] → fails → k.slotB.buffer = b :: rest →
        s.take i =
          failedOver { x with state := .starved, holding := false } b { live with underruns := up live.underruns } x.paceGo
            (s.post .streamState i starve)) ∧
      (∀ b rest, x.state = .starved → fails → k.slotB.buffer = b :: rest → s.take i = failedOver x b live [] s)))

/-- A block boundary works on its screen: the lane is given samples in range and zeros for absent buses (R58, R60, R62), the
tenth boundary since the last close closes the interval (R90), the immediate slot is empty afterwards (R162), layout,
library and the cue entries' numbers stay, and nothing outside the screen but its CUE lines, the event queue, the reply path
and the pace messages is touched. The boundary is its stages in their order: take, clock, decoder, equaliser, gain stage
with the steering values of the boundary before, switch progress, meters, cue list, immediate slot, and at the tenth the
close with the 18 instances and the guard (R129, R44, R73, R47, R62, R89, R149, R162, R90, R102, R122; logs 10 and 12), and
each row for an event inside a boundary is that boundary or nothing (log 1). With no cues and an empty slot, the clock moves
by the rules of its state and mode (R129 to R133), a chasing clock follows a block that carries a position, advances as a
flywheel on one that carries none, and stays when it is HELD, and the commands CLOCK_END, WRAP and FLYWHEEL_HOLD are the
boundaries at which those ends come (log 1). The clock's move posts END, WRAP and HELD with cause CLOCK and the chase resume
STATE with cause CHASE, applies the stop policy at an end, and hands on the movement from the evaluated position (R129 to
R133, R135, R174; details: logs 11, 14 and 43; the chasing clock started at its end point is log 44). -/
def Obligations.BlockBoundaryWork : Prop :=
  (∀ (s : State) (i : ScreenIx),
    ∃ t, exec (.blockBoundary i) s = .next t ∧
      (t.scr i).immediate = .empty ∧
      (t.scr i).meters.boundaryCount =
        (if 10 ≤ (s.scr i).meters.boundaryCount + 1 then 0 else (s.scr i).meters.boundaryCount + 1) ∧
      (∀ b : Bus, ((s.scr i).decoder.mask.getLsbD b.val = false → (t.scr i).lane[b] = List.replicate 48 0) ∧
        ∀ y ∈ (t.scr i).lane[b], -8388608 ≤ y ∧ y ≤ 8388607) ∧
      (t.scr i).decoder.mask = (s.scr i).decoder.mask ∧ (t.scr i).decoder.topology = (s.scr i).decoder.topology ∧
      (t.scr i).decoder.delay = (s.scr i).decoder.delay ∧
      (t.scr i).cues.map CueEntry.number = (s.scr i).cues.map CueEntry.number ∧
      (∀ l, (s.line l).cueScreen ≠ some i → t.line l = s.line l) ∧ (∀ l, (t.line l).config = (s.line l).config) ∧
      (∀ j, j ≠ i → t.scr j = s.scr j) ∧
      t = { s with screens := t.screens, lines := t.lines, queue := t.queue, paceOut := t.paceOut,
                   port := { s.port with path := t.port.path } }) ∧
  (∀ (s : State) (i : ScreenIx),
    let c := (s.scr i).clock
    let last := if c.length = 0 then 4294967294 else c.length
    let chosen := (s.slot i (s.scr i).intake.selection).state
    (s.scr i).cues = [] → (s.scr i).immediate = .empty →
      (c.state = .stopped →
        (∃ t, exec (.blockBoundary i) s = .next t ∧
          (t.scr i).clock = { c with evaluated := c.position, mark := false }) ∧
        exec (.clockEnd i) s = .next s ∧ exec (.wrap i) s = .next s ∧ exec (.flywheelHold i) s = .next s) ∧
      (c.state = .running → c.mode = .free → c.mark = false → c.position + 1 < last →
        ∃ t, exec (.blockBoundary i) s = .next t ∧
          (t.scr i).clock = { c with position := c.position + 1, evaluated := c.position + 1 }) ∧
      (c.state = .running → c.mode = .free → c.position = last ∨ (c.mark = false ∧ c.position + 1 = last) →
        c.endMode = .once ∨ c.length = 0 →
        ∃ t, exec (.clockEnd i) s = .next t ∧
          (t.scr i).clock = { c with state := .stopped, position := last, evaluated := last, mark := false } ∧
          ∀ l, t.line l = Line.stopFor i (s.line l)) ∧
      (c.state = .running → c.mode = .free → c.mark = false → c.position + 1 = last → c.endMode = .loop →
        c.length ≠ 0 →
        ∃ t, exec (.wrap i) s = .next t ∧ (t.scr i).clock = { c with position := 0, evaluated := 0 }) ∧
      (c.state = .running → c.mode = .chase → c.flywheelLimit ≤ c.flywheelCount →
        (s.scr i).intake.staged = (s.scr i).intake.selection → chosen = .empty ∨ chosen = .waiting →
        ∃ t, exec (.flywheelHold i) s = .next t ∧
          (t.scr i).clock = { c with state := .held, evaluated := c.position, mark := false })) ∧
  (∀ (s : State) (i : ScreenIx),
    let c := (s.scr i).clock
    let last := if c.length = 0 then 4294967294 else c.length
    let block := (s.take i).2
    let moved (p count : Nat) : Prop :=
      ∃ t, exec (.blockBoundary i) s = .next t ∧
        (t.scr i).clock =
          { c with
            state := if p = last ∧ (c.endMode = .once ∨ c.length = 0) then .stopped else .running, position := p,
            evaluated := p, mark := false, flywheelCount := count }
    (s.scr i).cues = [] → (s.scr i).immediate = .empty →
      (∀ p, c.mode = .chase → c.state ≠ .stopped → block.real = true → block.position = some p →
        moved (if c.length = 0 then p else min p c.length) 0) ∧
      (c.mode = .chase → c.state = .running → (block.real = false ∨ block.position = none) →
        c.flywheelCount < c.flywheelLimit →
        moved (if c.mark = false ∧ c.position < last then c.position + 1 else c.position) (c.flywheelCount + 1)) ∧
      (c.state = .held → c.mode = .free ∨ block.real = false ∨ block.position = none →
        ∃ t, exec (.blockBoundary i) s = .next t ∧
          (t.scr i).clock = { c with evaluated := c.position, mark := false })) ∧
  (∀ (s : State) (i : ScreenIx),
    let d := (s.scr i).decoder
    let taken := s.take i
    let moved := taken.1.moveClock i taken.2
    let decoded := moved.1.decode i taken.2
    let equalised := decoded.1.equalise i decoded.2
    let gained := equalised.1.gainStage i d.centre d.surround equalised.2
    let switched := gained.1.switchProgress i
    let c := switched.scr i
    let metered : State :=
      { switched with screens := switched.screens.set i { c with meters := c.meters.block c.lane gained.2 } }
    let performed := (metered.evaluateCues i moved.2).performSlot i
    let p := performed.scr i
    let published : State :=
      { performed with
        screens := performed.screens.set i
          { p with
            meters := p.meters.close,
            alarms := { p.alarms with streamState := (p.intake.slot p.intake.selection).state,
                                      streamLetter := p.intake.selection } } }
    let ids : List AlarmId :=
      .overLevel :: (List.finRange 8).map AlarmId.clip ++ (List.finRange 8).map AlarmId.silence ++ [.stream]
    exec (.blockBoundary i) s =
      .next
        (if 10 ≤ p.meters.boundaryCount then
          (ids.foldl (fun u id => u.evaluateAlarm i id) published).evaluateGuard i
        else performed)) ∧
  (∀ (s : State) (i : ScreenIx) (id : AlarmId),
    ∀ command ∈ ([.clockEnd i, .wrap i, .flywheelHold i, .crossfadeComplete i, .cutSwap i, .cutComplete i,
        .intervalClose i, .raiseDwellExpiry i id, .clearDwellExpiry i id, .remind i id, .guardReduceStep i,
        .guardReleaseStep i] : List Instr),
      exec command s = exec (.blockBoundary i) s ∨ exec command s = .next s) ∧
  (∀ (s : State) (i : ScreenIx) (block : Taken),
    let c := (s.scr i).clock
    let last := if c.length = 0 then 4294967294 else c.length
    let put (c : Clock) : State := { s with screens := s.screens.set i { s.scr i with clock := c } }
    let still : State × Movement :=
      (put { c with evaluated := c.position, mark := false },
        { old := c.evaluated, new := c.position, wrapped := false })
    let stepped := if c.mark = false ∧ c.position < last then c.position + 1 else c.position
    let ends (p : Nat) : Prop := p = last ∧ (c.endMode = .once ∨ c.length = 0)
    let ended (u : State) : State :=
      let v := u.post .clockEnd i [0x01, 0x00, 0x04, 0x00]
      { v with lines := v.lines.map (Line.stopFor i) }
    let going (p count : Nat) : Clock :=
      { c with state := if ends p then .stopped else .running, position := p, evaluated := p, mark := false,
               flywheelCount := count }
    let forward (p : Nat) : Movement := { old := c.evaluated, new := p, wrapped := false }
    s.moveClock i block =
      match c.state, c.mode, (if block.real then block.position else none) with
      | .stopped, _, _ => still
      | .held, .free, _ => still
      | .held, .chase, none => still
      | .running, .free, _ =>
        if stepped = last ∧ c.endMode = .loop ∧ c.length ≠ 0 then
          ((put { c with position := 0, evaluated := 0, mark := false }).post .clockWrap i
              ([0x01, 0x01, 0x04, 0x00] ++ u32 c.length),
            { old := c.evaluated, new := stepped, wrapped := true })
        else
          let u := put (going stepped c.flywheelCount)
          (if ends stepped then ended u else u, forward stepped)
      | state, .chase, some position =>
        let p := if c.length = 0 then position else min position c.length
        let u := put (going p 0)
        let resumed := if state = .held then u.post .clockState i [0x02, 0x01, 0x03, 0x00] else u
        (if ends p then ended resumed else resumed, forward p)
      | .running, .chase, none =>
        if c.flywheelCount < c.flywheelLimit then
          let u := put (going stepped (c.flywheelCount + 1))
          (if ends stepped then ended u else u, forward stepped)
        else
          ((put { c with state := .held, evaluated := c.position, mark := false }).post .clockHeld i
              [0x01, 0x02, 0x04, 0x00],
            forward c.position))

/-! ### Whole-part rules -/

/-- A command that names one screen reaches the blocks of no other, and a command of the part, the port or a line reaches no
screen's blocks at all: the screens are separate (00_scope, "Block overview"; R199). The resets of the part, SNAPSHOT, edges
and packets are stated elsewhere. -/
def Obligations.ScreensAreSeparate : Prop :=
  ∀ (c : Instr) (s t : State) (j : ScreenIx),
    exec c s = .next t → ¬ c.reachesScreens → c.onlyScreen ≠ some j → t.scr j = s.scr j

/-- Every step keeps the bounds of the event queue, the holding area and the reply path (R179, R181, R194 to R196). -/
def Obligations.QueueAndPortKept : Prop :=
  ∀ s t : State, QueueInv s → PortInv s → step s = .next t → QueueInv t ∧ PortInv t

/-- Every step keeps the seen list within eight entries of different streams, and only the slot named plays, and only a
playing slot is holding (R4, R15, R18). Every step keeps the law of the binding table, that a stream ID is held by at most
one slot (R6), and the law of the buffers: at most 64 blocks, ascending from the expected sequence, each at a distance from
0 to 63 (R8). -/
def Obligations.IntakeKept : Prop :=
  (∀ s t : State, SeenInv s → (∀ i, (s.scr i).intake.Inv) → step s = .next t →
    SeenInv t ∧ ∀ i, (t.scr i).intake.Inv) ∧
  (∀ s t : State, BoundOnce s → step s = .next t → BoundOnce t) ∧
  (∀ s t : State, (∀ i l, (s.slot i l).BufferInv) → step s = .next t → ∀ i l, (t.slot i l).BufferInv)

/-- Every step keeps the steering values, the fader under its limit, the windows of the meters and the guard's value in their
bounds (R43, R50, R90 to R92, R95, R97, R122, R124, R126). -/
def Obligations.ScreenBlocksKept : Prop :=
  ∀ s t : State,
    (∀ i, (s.scr i).decoder.Inv ∧ (s.scr i).gain.Inv ∧ (s.scr i).meters.Inv ∧ (s.scr i).guard.Inv) →
    step s = .next t →
      ∀ i, (t.scr i).decoder.Inv ∧ (t.scr i).gain.Inv ∧ (t.scr i).meters.Inv ∧ (t.scr i).guard.Inv

/-- Every step keeps each clock's position at or below its length, when it has one (R130). -/
def Obligations.ClocksKept : Prop :=
  ∀ s t : State, (∀ i, (s.scr i).clock.Inv) → step s = .next t → ∀ i, (t.scr i).clock.Inv

/-- Every step keeps the cue lists in order of time and number, without a number twice, within the pool (R144). -/
def Obligations.CuesKept : Prop := ∀ s t : State, CuesInv s → step s = .next t → CuesInv t

/-- Every step keeps the bands held within the pool, and a cut's reservation enough for its swap (R71, R80). -/
def Obligations.BandsKept : Prop := ∀ s t : State, BandInv s → step s = .next t → BandInv t

/-- Every step keeps the debounce timers and pulses with the levels they belong to (section 9.1, R172, R175). -/
def Obligations.LinesKept : Prop :=
  ∀ s t : State, (∀ l, (s.line l).Inv) → step s = .next t → ∀ l, (t.line l).Inv

/-- The part right after power-on meets every invariant above. -/
def Obligations.InvariantsHoldAtReset : Prop :=
  QueueInv State.reset ∧ PortInv State.reset ∧ SeenInv State.reset ∧ CuesInv State.reset ∧ BandInv State.reset ∧
    (∀ l, (State.reset.line l).Inv) ∧ BoundOnce State.reset ∧ (∀ i l, (State.reset.slot i l).BufferInv) ∧
    ∀ i, (State.reset.scr i).intake.Inv ∧ (State.reset.scr i).decoder.Inv ∧ (State.reset.scr i).gain.Inv ∧
      (State.reset.scr i).meters.Inv ∧ (State.reset.scr i).guard.Inv ∧ (State.reset.scr i).clock.Inv

end
end

