-- ==== Sys2Proof/Laws/State.lean ====
section
/-! SUPPORT. One lemma per field per update of the state, true by rfl, so that no later proof unfolds a record update; and
what a screen, a line and a slot read after an update. -/

namespace Sys2Proof.Machine

variable {s : State} {i j : ScreenIx} {l m : LineIx}

/-! ### Fields that an update leaves -/

@[simp] theorem State.modScreen_time {f : Screen → Screen} : (s.modScreen i f).time = s.time := rfl
@[simp] theorem State.modScreen_seen {f : Screen → Screen} : (s.modScreen i f).seen = s.seen := rfl
@[simp] theorem State.modScreen_discovery {f : Screen → Screen} : (s.modScreen i f).discovery = s.discovery := rfl
@[simp] theorem State.modScreen_library {f : Screen → Screen} : (s.modScreen i f).library = s.library := rfl
@[simp] theorem State.modScreen_lines {f : Screen → Screen} : (s.modScreen i f).lines = s.lines := rfl
@[simp] theorem State.modScreen_queue {f : Screen → Screen} : (s.modScreen i f).queue = s.queue := rfl
@[simp] theorem State.modScreen_partLive {f : Screen → Screen} : (s.modScreen i f).partLive = s.partLive := rfl
@[simp] theorem State.modScreen_partShadow {f : Screen → Screen} : (s.modScreen i f).partShadow = s.partShadow := rfl
@[simp] theorem State.modScreen_partSnapshot {f : Screen → Screen} : (s.modScreen i f).partSnapshot = s.partSnapshot := rfl
@[simp] theorem State.modScreen_port {f : Screen → Screen} : (s.modScreen i f).port = s.port := rfl
@[simp] theorem State.modScreen_controlOut {f : Screen → Screen} : (s.modScreen i f).controlOut = s.controlOut := rfl
@[simp] theorem State.modScreen_paceOut {f : Screen → Screen} : (s.modScreen i f).paceOut = s.paceOut := rfl
@[simp] theorem State.modScreen_pending {f : Screen → Screen} : (s.modScreen i f).pending = s.pending := rfl

@[simp] theorem State.modIntake_time {f : Intake → Intake} : (s.modIntake i f).time = s.time := rfl
@[simp] theorem State.modIntake_seen {f : Intake → Intake} : (s.modIntake i f).seen = s.seen := rfl
@[simp] theorem State.modIntake_discovery {f : Intake → Intake} : (s.modIntake i f).discovery = s.discovery := rfl
@[simp] theorem State.modIntake_library {f : Intake → Intake} : (s.modIntake i f).library = s.library := rfl
@[simp] theorem State.modIntake_lines {f : Intake → Intake} : (s.modIntake i f).lines = s.lines := rfl
@[simp] theorem State.modIntake_queue {f : Intake → Intake} : (s.modIntake i f).queue = s.queue := rfl
@[simp] theorem State.modIntake_partLive {f : Intake → Intake} : (s.modIntake i f).partLive = s.partLive := rfl
@[simp] theorem State.modIntake_partShadow {f : Intake → Intake} : (s.modIntake i f).partShadow = s.partShadow := rfl
@[simp] theorem State.modIntake_partSnapshot {f : Intake → Intake} : (s.modIntake i f).partSnapshot = s.partSnapshot := rfl
@[simp] theorem State.modIntake_port {f : Intake → Intake} : (s.modIntake i f).port = s.port := rfl
@[simp] theorem State.modIntake_controlOut {f : Intake → Intake} : (s.modIntake i f).controlOut = s.controlOut := rfl
@[simp] theorem State.modIntake_paceOut {f : Intake → Intake} : (s.modIntake i f).paceOut = s.paceOut := rfl
@[simp] theorem State.modIntake_pending {f : Intake → Intake} : (s.modIntake i f).pending = s.pending := rfl

@[simp] theorem State.modDecoder_time {f : Decoder → Decoder} : (s.modDecoder i f).time = s.time := rfl
@[simp] theorem State.modDecoder_seen {f : Decoder → Decoder} : (s.modDecoder i f).seen = s.seen := rfl
@[simp] theorem State.modDecoder_discovery {f : Decoder → Decoder} : (s.modDecoder i f).discovery = s.discovery := rfl
@[simp] theorem State.modDecoder_library {f : Decoder → Decoder} : (s.modDecoder i f).library = s.library := rfl
@[simp] theorem State.modDecoder_lines {f : Decoder → Decoder} : (s.modDecoder i f).lines = s.lines := rfl
@[simp] theorem State.modDecoder_queue {f : Decoder → Decoder} : (s.modDecoder i f).queue = s.queue := rfl
@[simp] theorem State.modDecoder_partLive {f : Decoder → Decoder} : (s.modDecoder i f).partLive = s.partLive := rfl
@[simp] theorem State.modDecoder_partShadow {f : Decoder → Decoder} : (s.modDecoder i f).partShadow = s.partShadow := rfl
@[simp] theorem State.modDecoder_partSnapshot {f : Decoder → Decoder} : (s.modDecoder i f).partSnapshot = s.partSnapshot := rfl
@[simp] theorem State.modDecoder_port {f : Decoder → Decoder} : (s.modDecoder i f).port = s.port := rfl
@[simp] theorem State.modDecoder_controlOut {f : Decoder → Decoder} : (s.modDecoder i f).controlOut = s.controlOut := rfl
@[simp] theorem State.modDecoder_paceOut {f : Decoder → Decoder} : (s.modDecoder i f).paceOut = s.paceOut := rfl
@[simp] theorem State.modDecoder_pending {f : Decoder → Decoder} : (s.modDecoder i f).pending = s.pending := rfl

@[simp] theorem State.modGain_time {f : Gain → Gain} : (s.modGain i f).time = s.time := rfl
@[simp] theorem State.modGain_seen {f : Gain → Gain} : (s.modGain i f).seen = s.seen := rfl
@[simp] theorem State.modGain_discovery {f : Gain → Gain} : (s.modGain i f).discovery = s.discovery := rfl
@[simp] theorem State.modGain_library {f : Gain → Gain} : (s.modGain i f).library = s.library := rfl
@[simp] theorem State.modGain_lines {f : Gain → Gain} : (s.modGain i f).lines = s.lines := rfl
@[simp] theorem State.modGain_queue {f : Gain → Gain} : (s.modGain i f).queue = s.queue := rfl
@[simp] theorem State.modGain_partLive {f : Gain → Gain} : (s.modGain i f).partLive = s.partLive := rfl
@[simp] theorem State.modGain_partShadow {f : Gain → Gain} : (s.modGain i f).partShadow = s.partShadow := rfl
@[simp] theorem State.modGain_partSnapshot {f : Gain → Gain} : (s.modGain i f).partSnapshot = s.partSnapshot := rfl
@[simp] theorem State.modGain_port {f : Gain → Gain} : (s.modGain i f).port = s.port := rfl
@[simp] theorem State.modGain_controlOut {f : Gain → Gain} : (s.modGain i f).controlOut = s.controlOut := rfl
@[simp] theorem State.modGain_paceOut {f : Gain → Gain} : (s.modGain i f).paceOut = s.paceOut := rfl
@[simp] theorem State.modGain_pending {f : Gain → Gain} : (s.modGain i f).pending = s.pending := rfl

@[simp] theorem State.modEqualiser_time {f : Equaliser → Equaliser} : (s.modEqualiser i f).time = s.time := rfl
@[simp] theorem State.modEqualiser_seen {f : Equaliser → Equaliser} : (s.modEqualiser i f).seen = s.seen := rfl
@[simp] theorem State.modEqualiser_discovery {f : Equaliser → Equaliser} : (s.modEqualiser i f).discovery = s.discovery := rfl
@[simp] theorem State.modEqualiser_library {f : Equaliser → Equaliser} : (s.modEqualiser i f).library = s.library := rfl
@[simp] theorem State.modEqualiser_lines {f : Equaliser → Equaliser} : (s.modEqualiser i f).lines = s.lines := rfl
@[simp] theorem State.modEqualiser_queue {f : Equaliser → Equaliser} : (s.modEqualiser i f).queue = s.queue := rfl
@[simp] theorem State.modEqualiser_partLive {f : Equaliser → Equaliser} : (s.modEqualiser i f).partLive = s.partLive := rfl
@[simp] theorem State.modEqualiser_partShadow {f : Equaliser → Equaliser} : (s.modEqualiser i f).partShadow = s.partShadow := rfl
@[simp] theorem State.modEqualiser_partSnapshot {f : Equaliser → Equaliser} : (s.modEqualiser i f).partSnapshot = s.partSnapshot := rfl
@[simp] theorem State.modEqualiser_port {f : Equaliser → Equaliser} : (s.modEqualiser i f).port = s.port := rfl
@[simp] theorem State.modEqualiser_controlOut {f : Equaliser → Equaliser} : (s.modEqualiser i f).controlOut = s.controlOut := rfl
@[simp] theorem State.modEqualiser_paceOut {f : Equaliser → Equaliser} : (s.modEqualiser i f).paceOut = s.paceOut := rfl
@[simp] theorem State.modEqualiser_pending {f : Equaliser → Equaliser} : (s.modEqualiser i f).pending = s.pending := rfl

@[simp] theorem State.modMeters_time {f : Meters → Meters} : (s.modMeters i f).time = s.time := rfl
@[simp] theorem State.modMeters_seen {f : Meters → Meters} : (s.modMeters i f).seen = s.seen := rfl
@[simp] theorem State.modMeters_discovery {f : Meters → Meters} : (s.modMeters i f).discovery = s.discovery := rfl
@[simp] theorem State.modMeters_library {f : Meters → Meters} : (s.modMeters i f).library = s.library := rfl
@[simp] theorem State.modMeters_lines {f : Meters → Meters} : (s.modMeters i f).lines = s.lines := rfl
@[simp] theorem State.modMeters_queue {f : Meters → Meters} : (s.modMeters i f).queue = s.queue := rfl
@[simp] theorem State.modMeters_partLive {f : Meters → Meters} : (s.modMeters i f).partLive = s.partLive := rfl
@[simp] theorem State.modMeters_partShadow {f : Meters → Meters} : (s.modMeters i f).partShadow = s.partShadow := rfl
@[simp] theorem State.modMeters_partSnapshot {f : Meters → Meters} : (s.modMeters i f).partSnapshot = s.partSnapshot := rfl
@[simp] theorem State.modMeters_port {f : Meters → Meters} : (s.modMeters i f).port = s.port := rfl
@[simp] theorem State.modMeters_controlOut {f : Meters → Meters} : (s.modMeters i f).controlOut = s.controlOut := rfl
@[simp] theorem State.modMeters_paceOut {f : Meters → Meters} : (s.modMeters i f).paceOut = s.paceOut := rfl
@[simp] theorem State.modMeters_pending {f : Meters → Meters} : (s.modMeters i f).pending = s.pending := rfl

@[simp] theorem State.modAlarms_time {f : Alarms → Alarms} : (s.modAlarms i f).time = s.time := rfl
@[simp] theorem State.modAlarms_seen {f : Alarms → Alarms} : (s.modAlarms i f).seen = s.seen := rfl
@[simp] theorem State.modAlarms_discovery {f : Alarms → Alarms} : (s.modAlarms i f).discovery = s.discovery := rfl
@[simp] theorem State.modAlarms_library {f : Alarms → Alarms} : (s.modAlarms i f).library = s.library := rfl
@[simp] theorem State.modAlarms_lines {f : Alarms → Alarms} : (s.modAlarms i f).lines = s.lines := rfl
@[simp] theorem State.modAlarms_queue {f : Alarms → Alarms} : (s.modAlarms i f).queue = s.queue := rfl
@[simp] theorem State.modAlarms_partLive {f : Alarms → Alarms} : (s.modAlarms i f).partLive = s.partLive := rfl
@[simp] theorem State.modAlarms_partShadow {f : Alarms → Alarms} : (s.modAlarms i f).partShadow = s.partShadow := rfl
@[simp] theorem State.modAlarms_partSnapshot {f : Alarms → Alarms} : (s.modAlarms i f).partSnapshot = s.partSnapshot := rfl
@[simp] theorem State.modAlarms_port {f : Alarms → Alarms} : (s.modAlarms i f).port = s.port := rfl
@[simp] theorem State.modAlarms_controlOut {f : Alarms → Alarms} : (s.modAlarms i f).controlOut = s.controlOut := rfl
@[simp] theorem State.modAlarms_paceOut {f : Alarms → Alarms} : (s.modAlarms i f).paceOut = s.paceOut := rfl
@[simp] theorem State.modAlarms_pending {f : Alarms → Alarms} : (s.modAlarms i f).pending = s.pending := rfl

@[simp] theorem State.modGuard_time {f : GuardBlock → GuardBlock} : (s.modGuard i f).time = s.time := rfl
@[simp] theorem State.modGuard_seen {f : GuardBlock → GuardBlock} : (s.modGuard i f).seen = s.seen := rfl
@[simp] theorem State.modGuard_discovery {f : GuardBlock → GuardBlock} : (s.modGuard i f).discovery = s.discovery := rfl
@[simp] theorem State.modGuard_library {f : GuardBlock → GuardBlock} : (s.modGuard i f).library = s.library := rfl
@[simp] theorem State.modGuard_lines {f : GuardBlock → GuardBlock} : (s.modGuard i f).lines = s.lines := rfl
@[simp] theorem State.modGuard_queue {f : GuardBlock → GuardBlock} : (s.modGuard i f).queue = s.queue := rfl
@[simp] theorem State.modGuard_partLive {f : GuardBlock → GuardBlock} : (s.modGuard i f).partLive = s.partLive := rfl
@[simp] theorem State.modGuard_partShadow {f : GuardBlock → GuardBlock} : (s.modGuard i f).partShadow = s.partShadow := rfl
@[simp] theorem State.modGuard_partSnapshot {f : GuardBlock → GuardBlock} : (s.modGuard i f).partSnapshot = s.partSnapshot := rfl
@[simp] theorem State.modGuard_port {f : GuardBlock → GuardBlock} : (s.modGuard i f).port = s.port := rfl
@[simp] theorem State.modGuard_controlOut {f : GuardBlock → GuardBlock} : (s.modGuard i f).controlOut = s.controlOut := rfl
@[simp] theorem State.modGuard_paceOut {f : GuardBlock → GuardBlock} : (s.modGuard i f).paceOut = s.paceOut := rfl
@[simp] theorem State.modGuard_pending {f : GuardBlock → GuardBlock} : (s.modGuard i f).pending = s.pending := rfl

@[simp] theorem State.modClock_time {f : Clock → Clock} : (s.modClock i f).time = s.time := rfl
@[simp] theorem State.modClock_seen {f : Clock → Clock} : (s.modClock i f).seen = s.seen := rfl
@[simp] theorem State.modClock_discovery {f : Clock → Clock} : (s.modClock i f).discovery = s.discovery := rfl
@[simp] theorem State.modClock_library {f : Clock → Clock} : (s.modClock i f).library = s.library := rfl
@[simp] theorem State.modClock_lines {f : Clock → Clock} : (s.modClock i f).lines = s.lines := rfl
@[simp] theorem State.modClock_queue {f : Clock → Clock} : (s.modClock i f).queue = s.queue := rfl
@[simp] theorem State.modClock_partLive {f : Clock → Clock} : (s.modClock i f).partLive = s.partLive := rfl
@[simp] theorem State.modClock_partShadow {f : Clock → Clock} : (s.modClock i f).partShadow = s.partShadow := rfl
@[simp] theorem State.modClock_partSnapshot {f : Clock → Clock} : (s.modClock i f).partSnapshot = s.partSnapshot := rfl
@[simp] theorem State.modClock_port {f : Clock → Clock} : (s.modClock i f).port = s.port := rfl
@[simp] theorem State.modClock_controlOut {f : Clock → Clock} : (s.modClock i f).controlOut = s.controlOut := rfl
@[simp] theorem State.modClock_paceOut {f : Clock → Clock} : (s.modClock i f).paceOut = s.paceOut := rfl
@[simp] theorem State.modClock_pending {f : Clock → Clock} : (s.modClock i f).pending = s.pending := rfl

@[simp] theorem State.modCues_time {f : List CueEntry → List CueEntry} : (s.modCues i f).time = s.time := rfl
@[simp] theorem State.modCues_seen {f : List CueEntry → List CueEntry} : (s.modCues i f).seen = s.seen := rfl
@[simp] theorem State.modCues_discovery {f : List CueEntry → List CueEntry} : (s.modCues i f).discovery = s.discovery := rfl
@[simp] theorem State.modCues_library {f : List CueEntry → List CueEntry} : (s.modCues i f).library = s.library := rfl
@[simp] theorem State.modCues_lines {f : List CueEntry → List CueEntry} : (s.modCues i f).lines = s.lines := rfl
@[simp] theorem State.modCues_queue {f : List CueEntry → List CueEntry} : (s.modCues i f).queue = s.queue := rfl
@[simp] theorem State.modCues_partLive {f : List CueEntry → List CueEntry} : (s.modCues i f).partLive = s.partLive := rfl
@[simp] theorem State.modCues_partShadow {f : List CueEntry → List CueEntry} : (s.modCues i f).partShadow = s.partShadow := rfl
@[simp] theorem State.modCues_partSnapshot {f : List CueEntry → List CueEntry} : (s.modCues i f).partSnapshot = s.partSnapshot := rfl
@[simp] theorem State.modCues_port {f : List CueEntry → List CueEntry} : (s.modCues i f).port = s.port := rfl
@[simp] theorem State.modCues_controlOut {f : List CueEntry → List CueEntry} : (s.modCues i f).controlOut = s.controlOut := rfl
@[simp] theorem State.modCues_paceOut {f : List CueEntry → List CueEntry} : (s.modCues i f).paceOut = s.paceOut := rfl
@[simp] theorem State.modCues_pending {f : List CueEntry → List CueEntry} : (s.modCues i f).pending = s.pending := rfl

@[simp] theorem State.setImmediate_time {f : Immediate} : (s.setImmediate i f).time = s.time := rfl
@[simp] theorem State.setImmediate_seen {f : Immediate} : (s.setImmediate i f).seen = s.seen := rfl
@[simp] theorem State.setImmediate_discovery {f : Immediate} : (s.setImmediate i f).discovery = s.discovery := rfl
@[simp] theorem State.setImmediate_library {f : Immediate} : (s.setImmediate i f).library = s.library := rfl
@[simp] theorem State.setImmediate_lines {f : Immediate} : (s.setImmediate i f).lines = s.lines := rfl
@[simp] theorem State.setImmediate_queue {f : Immediate} : (s.setImmediate i f).queue = s.queue := rfl
@[simp] theorem State.setImmediate_partLive {f : Immediate} : (s.setImmediate i f).partLive = s.partLive := rfl
@[simp] theorem State.setImmediate_partShadow {f : Immediate} : (s.setImmediate i f).partShadow = s.partShadow := rfl
@[simp] theorem State.setImmediate_partSnapshot {f : Immediate} : (s.setImmediate i f).partSnapshot = s.partSnapshot := rfl
@[simp] theorem State.setImmediate_port {f : Immediate} : (s.setImmediate i f).port = s.port := rfl
@[simp] theorem State.setImmediate_controlOut {f : Immediate} : (s.setImmediate i f).controlOut = s.controlOut := rfl
@[simp] theorem State.setImmediate_paceOut {f : Immediate} : (s.setImmediate i f).paceOut = s.paceOut := rfl
@[simp] theorem State.setImmediate_pending {f : Immediate} : (s.setImmediate i f).pending = s.pending := rfl

@[simp] theorem State.modLive_time {f : Counters → Counters} : (s.modLive i f).time = s.time := rfl
@[simp] theorem State.modLive_seen {f : Counters → Counters} : (s.modLive i f).seen = s.seen := rfl
@[simp] theorem State.modLive_discovery {f : Counters → Counters} : (s.modLive i f).discovery = s.discovery := rfl
@[simp] theorem State.modLive_library {f : Counters → Counters} : (s.modLive i f).library = s.library := rfl
@[simp] theorem State.modLive_lines {f : Counters → Counters} : (s.modLive i f).lines = s.lines := rfl
@[simp] theorem State.modLive_queue {f : Counters → Counters} : (s.modLive i f).queue = s.queue := rfl
@[simp] theorem State.modLive_partLive {f : Counters → Counters} : (s.modLive i f).partLive = s.partLive := rfl
@[simp] theorem State.modLive_partShadow {f : Counters → Counters} : (s.modLive i f).partShadow = s.partShadow := rfl
@[simp] theorem State.modLive_partSnapshot {f : Counters → Counters} : (s.modLive i f).partSnapshot = s.partSnapshot := rfl
@[simp] theorem State.modLive_port {f : Counters → Counters} : (s.modLive i f).port = s.port := rfl
@[simp] theorem State.modLive_controlOut {f : Counters → Counters} : (s.modLive i f).controlOut = s.controlOut := rfl
@[simp] theorem State.modLive_paceOut {f : Counters → Counters} : (s.modLive i f).paceOut = s.paceOut := rfl
@[simp] theorem State.modLive_pending {f : Counters → Counters} : (s.modLive i f).pending = s.pending := rfl

@[simp] theorem State.setLane_time {f : Vector (List Int) 8} : (s.setLane i f).time = s.time := rfl
@[simp] theorem State.setLane_seen {f : Vector (List Int) 8} : (s.setLane i f).seen = s.seen := rfl
@[simp] theorem State.setLane_discovery {f : Vector (List Int) 8} : (s.setLane i f).discovery = s.discovery := rfl
@[simp] theorem State.setLane_library {f : Vector (List Int) 8} : (s.setLane i f).library = s.library := rfl
@[simp] theorem State.setLane_lines {f : Vector (List Int) 8} : (s.setLane i f).lines = s.lines := rfl
@[simp] theorem State.setLane_queue {f : Vector (List Int) 8} : (s.setLane i f).queue = s.queue := rfl
@[simp] theorem State.setLane_partLive {f : Vector (List Int) 8} : (s.setLane i f).partLive = s.partLive := rfl
@[simp] theorem State.setLane_partShadow {f : Vector (List Int) 8} : (s.setLane i f).partShadow = s.partShadow := rfl
@[simp] theorem State.setLane_partSnapshot {f : Vector (List Int) 8} : (s.setLane i f).partSnapshot = s.partSnapshot := rfl
@[simp] theorem State.setLane_port {f : Vector (List Int) 8} : (s.setLane i f).port = s.port := rfl
@[simp] theorem State.setLane_controlOut {f : Vector (List Int) 8} : (s.setLane i f).controlOut = s.controlOut := rfl
@[simp] theorem State.setLane_paceOut {f : Vector (List Int) 8} : (s.setLane i f).paceOut = s.paceOut := rfl
@[simp] theorem State.setLane_pending {f : Vector (List Int) 8} : (s.setLane i f).pending = s.pending := rfl

@[simp] theorem State.modSlot_time {k : Letter} {f : Slot → Slot} : (s.modSlot i k f).time = s.time := rfl
@[simp] theorem State.modSlot_seen {k : Letter} {f : Slot → Slot} : (s.modSlot i k f).seen = s.seen := rfl
@[simp] theorem State.modSlot_discovery {k : Letter} {f : Slot → Slot} : (s.modSlot i k f).discovery = s.discovery := rfl
@[simp] theorem State.modSlot_library {k : Letter} {f : Slot → Slot} : (s.modSlot i k f).library = s.library := rfl
@[simp] theorem State.modSlot_lines {k : Letter} {f : Slot → Slot} : (s.modSlot i k f).lines = s.lines := rfl
@[simp] theorem State.modSlot_queue {k : Letter} {f : Slot → Slot} : (s.modSlot i k f).queue = s.queue := rfl
@[simp] theorem State.modSlot_partLive {k : Letter} {f : Slot → Slot} : (s.modSlot i k f).partLive = s.partLive := rfl
@[simp] theorem State.modSlot_partShadow {k : Letter} {f : Slot → Slot} : (s.modSlot i k f).partShadow = s.partShadow := rfl
@[simp] theorem State.modSlot_partSnapshot {k : Letter} {f : Slot → Slot} : (s.modSlot i k f).partSnapshot = s.partSnapshot := rfl
@[simp] theorem State.modSlot_port {k : Letter} {f : Slot → Slot} : (s.modSlot i k f).port = s.port := rfl
@[simp] theorem State.modSlot_controlOut {k : Letter} {f : Slot → Slot} : (s.modSlot i k f).controlOut = s.controlOut := rfl
@[simp] theorem State.modSlot_paceOut {k : Letter} {f : Slot → Slot} : (s.modSlot i k f).paceOut = s.paceOut := rfl
@[simp] theorem State.modSlot_pending {k : Letter} {f : Slot → Slot} : (s.modSlot i k f).pending = s.pending := rfl

@[simp] theorem State.modLine_time {f : Line → Line} : (s.modLine l f).time = s.time := rfl
@[simp] theorem State.modLine_screens {f : Line → Line} : (s.modLine l f).screens = s.screens := rfl
@[simp] theorem State.modLine_seen {f : Line → Line} : (s.modLine l f).seen = s.seen := rfl
@[simp] theorem State.modLine_discovery {f : Line → Line} : (s.modLine l f).discovery = s.discovery := rfl
@[simp] theorem State.modLine_library {f : Line → Line} : (s.modLine l f).library = s.library := rfl
@[simp] theorem State.modLine_queue {f : Line → Line} : (s.modLine l f).queue = s.queue := rfl
@[simp] theorem State.modLine_partLive {f : Line → Line} : (s.modLine l f).partLive = s.partLive := rfl
@[simp] theorem State.modLine_partShadow {f : Line → Line} : (s.modLine l f).partShadow = s.partShadow := rfl
@[simp] theorem State.modLine_partSnapshot {f : Line → Line} : (s.modLine l f).partSnapshot = s.partSnapshot := rfl
@[simp] theorem State.modLine_port {f : Line → Line} : (s.modLine l f).port = s.port := rfl
@[simp] theorem State.modLine_controlOut {f : Line → Line} : (s.modLine l f).controlOut = s.controlOut := rfl
@[simp] theorem State.modLine_paceOut {f : Line → Line} : (s.modLine l f).paceOut = s.paceOut := rfl
@[simp] theorem State.modLine_pending {f : Line → Line} : (s.modLine l f).pending = s.pending := rfl

@[simp] theorem State.modPort_time {f : Port → Port} : (s.modPort f).time = s.time := rfl
@[simp] theorem State.modPort_screens {f : Port → Port} : (s.modPort f).screens = s.screens := rfl
@[simp] theorem State.modPort_seen {f : Port → Port} : (s.modPort f).seen = s.seen := rfl
@[simp] theorem State.modPort_discovery {f : Port → Port} : (s.modPort f).discovery = s.discovery := rfl
@[simp] theorem State.modPort_library {f : Port → Port} : (s.modPort f).library = s.library := rfl
@[simp] theorem State.modPort_lines {f : Port → Port} : (s.modPort f).lines = s.lines := rfl
@[simp] theorem State.modPort_queue {f : Port → Port} : (s.modPort f).queue = s.queue := rfl
@[simp] theorem State.modPort_partLive {f : Port → Port} : (s.modPort f).partLive = s.partLive := rfl
@[simp] theorem State.modPort_partShadow {f : Port → Port} : (s.modPort f).partShadow = s.partShadow := rfl
@[simp] theorem State.modPort_partSnapshot {f : Port → Port} : (s.modPort f).partSnapshot = s.partSnapshot := rfl
@[simp] theorem State.modPort_controlOut {f : Port → Port} : (s.modPort f).controlOut = s.controlOut := rfl
@[simp] theorem State.modPort_paceOut {f : Port → Port} : (s.modPort f).paceOut = s.paceOut := rfl
@[simp] theorem State.modPort_pending {f : Port → Port} : (s.modPort f).pending = s.pending := rfl

@[simp] theorem State.modQueue_time {f : EventQueue → EventQueue} : (s.modQueue f).time = s.time := rfl
@[simp] theorem State.modQueue_screens {f : EventQueue → EventQueue} : (s.modQueue f).screens = s.screens := rfl
@[simp] theorem State.modQueue_seen {f : EventQueue → EventQueue} : (s.modQueue f).seen = s.seen := rfl
@[simp] theorem State.modQueue_discovery {f : EventQueue → EventQueue} : (s.modQueue f).discovery = s.discovery := rfl
@[simp] theorem State.modQueue_library {f : EventQueue → EventQueue} : (s.modQueue f).library = s.library := rfl
@[simp] theorem State.modQueue_lines {f : EventQueue → EventQueue} : (s.modQueue f).lines = s.lines := rfl
@[simp] theorem State.modQueue_partLive {f : EventQueue → EventQueue} : (s.modQueue f).partLive = s.partLive := rfl
@[simp] theorem State.modQueue_partShadow {f : EventQueue → EventQueue} : (s.modQueue f).partShadow = s.partShadow := rfl
@[simp] theorem State.modQueue_partSnapshot {f : EventQueue → EventQueue} : (s.modQueue f).partSnapshot = s.partSnapshot := rfl
@[simp] theorem State.modQueue_port {f : EventQueue → EventQueue} : (s.modQueue f).port = s.port := rfl
@[simp] theorem State.modQueue_controlOut {f : EventQueue → EventQueue} : (s.modQueue f).controlOut = s.controlOut := rfl
@[simp] theorem State.modQueue_paceOut {f : EventQueue → EventQueue} : (s.modQueue f).paceOut = s.paceOut := rfl
@[simp] theorem State.modQueue_pending {f : EventQueue → EventQueue} : (s.modQueue f).pending = s.pending := rfl

@[simp] theorem State.modPartLive_time {f : PartCounters → PartCounters} : (s.modPartLive f).time = s.time := rfl
@[simp] theorem State.modPartLive_screens {f : PartCounters → PartCounters} : (s.modPartLive f).screens = s.screens := rfl
@[simp] theorem State.modPartLive_seen {f : PartCounters → PartCounters} : (s.modPartLive f).seen = s.seen := rfl
@[simp] theorem State.modPartLive_discovery {f : PartCounters → PartCounters} : (s.modPartLive f).discovery = s.discovery := rfl
@[simp] theorem State.modPartLive_library {f : PartCounters → PartCounters} : (s.modPartLive f).library = s.library := rfl
@[simp] theorem State.modPartLive_lines {f : PartCounters → PartCounters} : (s.modPartLive f).lines = s.lines := rfl
@[simp] theorem State.modPartLive_queue {f : PartCounters → PartCounters} : (s.modPartLive f).queue = s.queue := rfl
@[simp] theorem State.modPartLive_partShadow {f : PartCounters → PartCounters} : (s.modPartLive f).partShadow = s.partShadow := rfl
@[simp] theorem State.modPartLive_partSnapshot {f : PartCounters → PartCounters} : (s.modPartLive f).partSnapshot = s.partSnapshot := rfl
@[simp] theorem State.modPartLive_port {f : PartCounters → PartCounters} : (s.modPartLive f).port = s.port := rfl
@[simp] theorem State.modPartLive_controlOut {f : PartCounters → PartCounters} : (s.modPartLive f).controlOut = s.controlOut := rfl
@[simp] theorem State.modPartLive_paceOut {f : PartCounters → PartCounters} : (s.modPartLive f).paceOut = s.paceOut := rfl
@[simp] theorem State.modPartLive_pending {f : PartCounters → PartCounters} : (s.modPartLive f).pending = s.pending := rfl

@[simp] theorem State.countDiscard_time  : (s.countDiscard).time = s.time := rfl
@[simp] theorem State.countDiscard_screens  : (s.countDiscard).screens = s.screens := rfl
@[simp] theorem State.countDiscard_seen  : (s.countDiscard).seen = s.seen := rfl
@[simp] theorem State.countDiscard_discovery  : (s.countDiscard).discovery = s.discovery := rfl
@[simp] theorem State.countDiscard_library  : (s.countDiscard).library = s.library := rfl
@[simp] theorem State.countDiscard_lines  : (s.countDiscard).lines = s.lines := rfl
@[simp] theorem State.countDiscard_queue  : (s.countDiscard).queue = s.queue := rfl
@[simp] theorem State.countDiscard_partShadow  : (s.countDiscard).partShadow = s.partShadow := rfl
@[simp] theorem State.countDiscard_partSnapshot  : (s.countDiscard).partSnapshot = s.partSnapshot := rfl
@[simp] theorem State.countDiscard_port  : (s.countDiscard).port = s.port := rfl
@[simp] theorem State.countDiscard_controlOut  : (s.countDiscard).controlOut = s.controlOut := rfl
@[simp] theorem State.countDiscard_paceOut  : (s.countDiscard).paceOut = s.paceOut := rfl
@[simp] theorem State.countDiscard_pending  : (s.countDiscard).pending = s.pending := rfl

@[simp] theorem State.pushPath_time {f : Frame} : (s.pushPath f).time = s.time := rfl
@[simp] theorem State.pushPath_screens {f : Frame} : (s.pushPath f).screens = s.screens := rfl
@[simp] theorem State.pushPath_seen {f : Frame} : (s.pushPath f).seen = s.seen := rfl
@[simp] theorem State.pushPath_discovery {f : Frame} : (s.pushPath f).discovery = s.discovery := rfl
@[simp] theorem State.pushPath_library {f : Frame} : (s.pushPath f).library = s.library := rfl
@[simp] theorem State.pushPath_lines {f : Frame} : (s.pushPath f).lines = s.lines := rfl
@[simp] theorem State.pushPath_queue {f : Frame} : (s.pushPath f).queue = s.queue := rfl
@[simp] theorem State.pushPath_partLive {f : Frame} : (s.pushPath f).partLive = s.partLive := rfl
@[simp] theorem State.pushPath_partShadow {f : Frame} : (s.pushPath f).partShadow = s.partShadow := rfl
@[simp] theorem State.pushPath_partSnapshot {f : Frame} : (s.pushPath f).partSnapshot = s.partSnapshot := rfl
@[simp] theorem State.pushPath_controlOut {f : Frame} : (s.pushPath f).controlOut = s.controlOut := rfl
@[simp] theorem State.pushPath_paceOut {f : Frame} : (s.pushPath f).paceOut = s.paceOut := rfl
@[simp] theorem State.pushPath_pending {f : Frame} : (s.pushPath f).pending = s.pending := rfl

@[simp] theorem State.beginService_time  : (s.beginService).time = s.time := rfl
@[simp] theorem State.beginService_screens  : (s.beginService).screens = s.screens := rfl
@[simp] theorem State.beginService_seen  : (s.beginService).seen = s.seen := rfl
@[simp] theorem State.beginService_discovery  : (s.beginService).discovery = s.discovery := rfl
@[simp] theorem State.beginService_library  : (s.beginService).library = s.library := rfl
@[simp] theorem State.beginService_lines  : (s.beginService).lines = s.lines := rfl
@[simp] theorem State.beginService_queue  : (s.beginService).queue = s.queue := rfl
@[simp] theorem State.beginService_partLive  : (s.beginService).partLive = s.partLive := rfl
@[simp] theorem State.beginService_partShadow  : (s.beginService).partShadow = s.partShadow := rfl
@[simp] theorem State.beginService_partSnapshot  : (s.beginService).partSnapshot = s.partSnapshot := rfl
@[simp] theorem State.beginService_controlOut  : (s.beginService).controlOut = s.controlOut := rfl
@[simp] theorem State.beginService_paceOut  : (s.beginService).paceOut = s.paceOut := rfl
@[simp] theorem State.beginService_pending  : (s.beginService).pending = s.pending := rfl

@[simp] theorem State.tick_screens  : (s.tick).screens = s.screens := rfl
@[simp] theorem State.tick_seen  : (s.tick).seen = s.seen := rfl
@[simp] theorem State.tick_discovery  : (s.tick).discovery = s.discovery := rfl
@[simp] theorem State.tick_library  : (s.tick).library = s.library := rfl
@[simp] theorem State.tick_lines  : (s.tick).lines = s.lines := rfl
@[simp] theorem State.tick_queue  : (s.tick).queue = s.queue := rfl
@[simp] theorem State.tick_partLive  : (s.tick).partLive = s.partLive := rfl
@[simp] theorem State.tick_partShadow  : (s.tick).partShadow = s.partShadow := rfl
@[simp] theorem State.tick_partSnapshot  : (s.tick).partSnapshot = s.partSnapshot := rfl
@[simp] theorem State.tick_port  : (s.tick).port = s.port := rfl
@[simp] theorem State.tick_controlOut  : (s.tick).controlOut = s.controlOut := rfl
@[simp] theorem State.tick_paceOut  : (s.tick).paceOut = s.paceOut := rfl
@[simp] theorem State.tick_pending  : (s.tick).pending = s.pending := rfl

@[simp] theorem State.operateLine_time {op : LineOperation} : (s.operateLine l op).time = s.time := rfl
@[simp] theorem State.operateLine_screens {op : LineOperation} : (s.operateLine l op).screens = s.screens := rfl
@[simp] theorem State.operateLine_seen {op : LineOperation} : (s.operateLine l op).seen = s.seen := rfl
@[simp] theorem State.operateLine_discovery {op : LineOperation} : (s.operateLine l op).discovery = s.discovery := rfl
@[simp] theorem State.operateLine_library {op : LineOperation} : (s.operateLine l op).library = s.library := rfl
@[simp] theorem State.operateLine_queue {op : LineOperation} : (s.operateLine l op).queue = s.queue := rfl
@[simp] theorem State.operateLine_partLive {op : LineOperation} : (s.operateLine l op).partLive = s.partLive := rfl
@[simp] theorem State.operateLine_partShadow {op : LineOperation} : (s.operateLine l op).partShadow = s.partShadow := rfl
@[simp] theorem State.operateLine_partSnapshot {op : LineOperation} : (s.operateLine l op).partSnapshot = s.partSnapshot := rfl
@[simp] theorem State.operateLine_port {op : LineOperation} : (s.operateLine l op).port = s.port := rfl
@[simp] theorem State.operateLine_controlOut {op : LineOperation} : (s.operateLine l op).controlOut = s.controlOut := rfl
@[simp] theorem State.operateLine_paceOut {op : LineOperation} : (s.operateLine l op).paceOut = s.paceOut := rfl
@[simp] theorem State.operateLine_pending {op : LineOperation} : (s.operateLine l op).pending = s.pending := rfl

@[simp] theorem State.applyStopPolicy_time  : (s.applyStopPolicy i).time = s.time := rfl
@[simp] theorem State.applyStopPolicy_screens  : (s.applyStopPolicy i).screens = s.screens := rfl
@[simp] theorem State.applyStopPolicy_seen  : (s.applyStopPolicy i).seen = s.seen := rfl
@[simp] theorem State.applyStopPolicy_discovery  : (s.applyStopPolicy i).discovery = s.discovery := rfl
@[simp] theorem State.applyStopPolicy_library  : (s.applyStopPolicy i).library = s.library := rfl
@[simp] theorem State.applyStopPolicy_queue  : (s.applyStopPolicy i).queue = s.queue := rfl
@[simp] theorem State.applyStopPolicy_partLive  : (s.applyStopPolicy i).partLive = s.partLive := rfl
@[simp] theorem State.applyStopPolicy_partShadow  : (s.applyStopPolicy i).partShadow = s.partShadow := rfl
@[simp] theorem State.applyStopPolicy_partSnapshot  : (s.applyStopPolicy i).partSnapshot = s.partSnapshot := rfl
@[simp] theorem State.applyStopPolicy_port  : (s.applyStopPolicy i).port = s.port := rfl
@[simp] theorem State.applyStopPolicy_controlOut  : (s.applyStopPolicy i).controlOut = s.controlOut := rfl
@[simp] theorem State.applyStopPolicy_paceOut  : (s.applyStopPolicy i).paceOut = s.paceOut := rfl
@[simp] theorem State.applyStopPolicy_pending  : (s.applyStopPolicy i).pending = s.pending := rfl

/-! ### What an update changes -/

@[simp] theorem State.modPort_port {f : Port → Port} : (s.modPort f).port = f s.port := rfl
@[simp] theorem State.modQueue_queue {f : EventQueue → EventQueue} : (s.modQueue f).queue = f s.queue := rfl
@[simp] theorem State.modPartLive_partLive {f : PartCounters → PartCounters} : (s.modPartLive f).partLive = f s.partLive := rfl
@[simp] theorem State.countDiscard_framesDiscarded :
    s.countDiscard.partLive.framesDiscarded = bumped s.partLive.framesDiscarded := rfl
@[simp] theorem State.countDiscard_packetsUnmatched :
    s.countDiscard.partLive.packetsUnmatched = s.partLive.packetsUnmatched := rfl
@[simp] theorem State.countDiscard_packetsMalformed :
    s.countDiscard.partLive.packetsMalformed = s.partLive.packetsMalformed := rfl
@[simp] theorem State.tick_time : s.tick.time = s.time + 1 := rfl
@[simp] theorem State.pushPath_path {f : Frame} : (s.pushPath f).port.path = s.port.path ++ [f] := rfl
@[simp] theorem State.pushPath_phase {f : Frame} : (s.pushPath f).port.phase = s.port.phase := rfl
@[simp] theorem State.pushPath_received {f : Frame} : (s.pushPath f).port.received = s.port.received := rfl
@[simp] theorem State.pushPath_lastByte {f : Frame} : (s.pushPath f).port.lastByte = s.port.lastByte := rfl
@[simp] theorem State.pushPath_holding {f : Frame} : (s.pushPath f).port.holding = s.port.holding := rfl
@[simp] theorem State.beginService_holding : s.beginService.port.holding = s.port.holding.tail := rfl
@[simp] theorem State.beginService_path : s.beginService.port.path = s.port.path := rfl
@[simp] theorem State.beginService_phase : s.beginService.port.phase = s.port.phase := rfl
@[simp] theorem State.beginService_received : s.beginService.port.received = s.port.received := rfl
@[simp] theorem State.beginService_lastByte : s.beginService.port.lastByte = s.port.lastByte := rfl

/-! ### Reading a screen -/

/-- A screen after a change of one screen. -/
@[simp] theorem State.scr_modScreen {f : Screen → Screen} :
    (s.modScreen i f).scr j = if i = j then f (s.scr i) else s.scr j := by
  simp only [State.scr, State.modScreen, Fin.getElem_fin, Vector.getElem_set]
  by_cases h : i = j
  · simp [h]
  · have hv : ¬ i.val = j.val := fun e => h (Fin.ext e)
    simp [h, hv]

@[simp] theorem State.scr_modIntake {f : Intake → Intake} :
    (s.modIntake i f).scr j = if i = j then { s.scr i with intake := f (s.scr i).intake } else s.scr j :=
  State.scr_modScreen
@[simp] theorem State.scr_modDecoder {f : Decoder → Decoder} :
    (s.modDecoder i f).scr j = if i = j then { s.scr i with decoder := f (s.scr i).decoder } else s.scr j :=
  State.scr_modScreen
@[simp] theorem State.scr_modGain {f : Gain → Gain} :
    (s.modGain i f).scr j = if i = j then { s.scr i with gain := f (s.scr i).gain } else s.scr j :=
  State.scr_modScreen
@[simp] theorem State.scr_modEqualiser {f : Equaliser → Equaliser} :
    (s.modEqualiser i f).scr j = if i = j then { s.scr i with equaliser := f (s.scr i).equaliser } else s.scr j :=
  State.scr_modScreen
@[simp] theorem State.scr_modMeters {f : Meters → Meters} :
    (s.modMeters i f).scr j = if i = j then { s.scr i with meters := f (s.scr i).meters } else s.scr j :=
  State.scr_modScreen
@[simp] theorem State.scr_modAlarms {f : Alarms → Alarms} :
    (s.modAlarms i f).scr j = if i = j then { s.scr i with alarms := f (s.scr i).alarms } else s.scr j :=
  State.scr_modScreen
@[simp] theorem State.scr_modGuard {f : GuardBlock → GuardBlock} :
    (s.modGuard i f).scr j = if i = j then { s.scr i with guard := f (s.scr i).guard } else s.scr j :=
  State.scr_modScreen
@[simp] theorem State.scr_modClock {f : Clock → Clock} :
    (s.modClock i f).scr j = if i = j then { s.scr i with clock := f (s.scr i).clock } else s.scr j :=
  State.scr_modScreen
@[simp] theorem State.scr_modCues {f : List CueEntry → List CueEntry} :
    (s.modCues i f).scr j = if i = j then { s.scr i with cues := f (s.scr i).cues } else s.scr j :=
  State.scr_modScreen
@[simp] theorem State.scr_setImmediate {f : Immediate} :
    (s.setImmediate i f).scr j = if i = j then { s.scr i with immediate := f } else s.scr j :=
  State.scr_modScreen
@[simp] theorem State.scr_modLive {f : Counters → Counters} :
    (s.modLive i f).scr j = if i = j then { s.scr i with live := f (s.scr i).live } else s.scr j :=
  State.scr_modScreen
@[simp] theorem State.scr_setLane {f : Vector (List Int) 8} :
    (s.setLane i f).scr j = if i = j then { s.scr i with lane := f } else s.scr j :=
  State.scr_modScreen
@[simp] theorem State.scr_modLine {f : Line → Line} : (s.modLine l f).scr j = s.scr j := rfl
@[simp] theorem State.scr_modPort {f : Port → Port} : (s.modPort f).scr j = s.scr j := rfl
@[simp] theorem State.scr_modQueue {f : EventQueue → EventQueue} : (s.modQueue f).scr j = s.scr j := rfl
@[simp] theorem State.scr_modPartLive {f : PartCounters → PartCounters} : (s.modPartLive f).scr j = s.scr j := rfl
@[simp] theorem State.scr_pushPath {f : Frame} : (s.pushPath f).scr j = s.scr j := rfl
@[simp] theorem State.scr_operateLine {op : LineOperation} : (s.operateLine l op).scr j = s.scr j := rfl
@[simp] theorem State.scr_countDiscard : s.countDiscard.scr j = s.scr j := rfl
@[simp] theorem State.scr_beginService : s.beginService.scr j = s.scr j := rfl
@[simp] theorem State.scr_tick : s.tick.scr j = s.scr j := rfl
@[simp] theorem State.scr_applyStopPolicy : (s.applyStopPolicy i).scr j = s.scr j := rfl

/-! ### Reading a slot, a line -/

@[simp] theorem Intake.slot_setSlot_same {k : Intake} {p : Letter} {x : Slot} : (k.setSlot p x).slot p = x := by
  cases p <;> rfl

/-- A slot after a change of one slot of the intake. -/
theorem Intake.slot_setSlot {k : Intake} {p q : Letter} {x : Slot} :
    (k.setSlot p x).slot q = if p = q then x else k.slot q := by
  cases p <;> cases q <;> rfl

/-- A slot after a change of one slot. -/
theorem State.slot_modSlot {p q : Letter} {f : Slot → Slot} :
    (s.modSlot i p f).slot j q = if i = j ∧ p = q then f (s.slot i p) else s.slot j q := by
  unfold State.modSlot State.slot
  rw [State.scr_modIntake]
  by_cases h : i = j
  · subst h; simp only [if_true, true_and]; exact Intake.slot_setSlot
  · simp [h]

/-- A line after a change of one line. -/
@[simp] theorem State.line_modLine {f : Line → Line} :
    (s.modLine l f).line m = if l = m then f (s.line l) else s.line m := by
  simp only [State.line, State.modLine, Fin.getElem_fin, Vector.getElem_set]
  by_cases h : l = m
  · simp [h]
  · have hv : ¬ l.val = m.val := fun e => h (Fin.ext e)
    simp [h, hv]

@[simp] theorem State.line_modScreen {f : Screen → Screen} : (s.modScreen i f).line m = s.line m := rfl
@[simp] theorem State.line_modPort {f : Port → Port} : (s.modPort f).line m = s.line m := rfl
@[simp] theorem State.line_modQueue {f : EventQueue → EventQueue} : (s.modQueue f).line m = s.line m := rfl

/-- A line after the stop policy of a screen (R174). -/
@[simp] theorem State.line_applyStopPolicy : (s.applyStopPolicy i).line m = Line.stopFor i (s.line m) := by
  simp [State.line, State.applyStopPolicy]

end Sys2Proof.Machine
end

