-- ==== Sys2Proof/Laws/Ops.lean ====
section
/-! SUPPORT. What each shared operation does, said once: serving a request, posting a record, pace messages, the clock's
commands, lines, the receiver, and the searches of the arithmetic. -/

namespace Sys2Proof.Machine

variable {s t : State} {i j : ScreenIx}

/-! ### Service -/

/-- The port hands the request to service (R194 to R196): what `State.serves` decides, in words. -/
theorem State.serves_iff {c : Instr} :
    s.serves c = true ↔
      s.port.phase = .accepting ∧ s.port.path.length < 15 ∧
        (s.port.holding = [] ∨ ∃ f rest, s.port.holding = f :: rest ∧ requestOfFrame f = c) := by
  unfold State.serves
  cases h : s.port.holding <;> simp [and_assoc]

/-- A request that is served, of the right length, gives its body's state and reply. -/
theorem State.serve_ok {c : Instr} {q : Req} {kind : Byte} {bad : List Byte} {body : State → State × List Byte}
    (h : s.serves c = true) (hq : q.lengthOk = true) :
    s.serve c q kind bad body =
      (body s.beginService).1.pushPath (replyFrame q.tag kind (body s.beginService).2) := by
  simp [State.serve, h, hq]

/-- A request that is served with a payload of a wrong length is refused by the port. -/
theorem State.serve_badLength {c : Instr} {q : Req} {kind : Byte} {bad : List Byte}
    {body : State → State × List Byte} (h : s.serves c = true) (hq : q.lengthOk = false) :
    s.serve c q kind bad body = s.beginService.pushPath (replyFrame q.tag kind bad) := by
  simp [State.serve, h, hq]

/-- A request that is not to be served now changes nothing. -/
theorem State.serve_not {c : Instr} {q : Req} {kind : Byte} {bad : List Byte} {body : State → State × List Byte}
    (h : s.serves c = false) : s.serve c q kind bad body = s := by
  simp [State.serve, h]

/-! ### Posting -/

/-- The three ends of a posting (R180, R181, R185): discarded, admitted with or without a notice, or lost. -/
theorem State.postAt_cases (what : EventType) (screen : Option ScreenIx) (position : Option Nat) (detail : List Byte) :
    (s.queue.priorities.of what = 0 ∧ s.postAt what screen position detail = s) ∨
    (0 < s.queue.priorities.of what ∧ admits (s.queue.priorities.of what) s.queue.records.length = true ∧
      ∃ notify : Bool,
        (notify = true ↔ s.queue.attention = false ∧
          (s.queue.threshold ≤ s.queue.records.length + 1 ∨ s.queue.urgent ≤ s.queue.priorities.of what)) ∧
        s.postAt what screen position detail =
          (let t := s.modQueue (fun q =>
              { q with
                records := q.records ++
                  [{ what := what, screen := screen, time := s.time, position := position, lost := s.queue.lost,
                     detail := detail }],
                lost := 0, attention := q.attention || notify })
           if notify then t.pushPath attentionNotice else t)) ∨
    (0 < s.queue.priorities.of what ∧ admits (s.queue.priorities.of what) s.queue.records.length = false ∧
      s.postAt what screen position detail = s.modQueue (fun q => { q with lost := min (q.lost + 1) 65535 })) := by
  by_cases hp : s.queue.priorities.of what = 0
  · left; exact ⟨hp, by simp [State.postAt, hp]⟩
  · right
    cases ha : admits (s.queue.priorities.of what) s.queue.records.length
    · right; exact ⟨by omega, rfl, by simp [State.postAt, hp, ha]⟩
    · left
      refine ⟨by omega, rfl, !s.queue.attention &&
        (decide (s.queue.threshold ≤ s.queue.records.length + 1) || decide (s.queue.urgent ≤ s.queue.priorities.of what)),
        ?_, ?_⟩
      · cases s.queue.attention <;> simp
      · simp [State.postAt, hp, ha]

section
variable {what : EventType} {screen : Option ScreenIx} {position : Option Nat} {detail : List Byte}

/-- A posting changes the queue and, by a notice, the reply path; nothing else. -/
theorem State.postAt_frame :
    ∃ q path, s.postAt what screen position detail = { s with queue := q, port := { s.port with path := path } } := by
  obtain h | ⟨-, -, n, -, h⟩ | h := State.postAt_cases (s := s) what screen position detail
  · exact ⟨s.queue, s.port.path, h.2⟩
  · cases n
    · exact ⟨_, s.port.path, h⟩
    · exact ⟨_, s.port.path ++ [attentionNotice], h⟩
  · exact ⟨_, s.port.path, h.2.2⟩

@[simp] theorem State.postAt_time : (s.postAt what screen position detail).time = s.time := by
  obtain ⟨q, p, h⟩ := State.postAt_frame (s := s) (what := what) (screen := screen) (position := position) (detail := detail); rw [h]
@[simp] theorem State.postAt_screens : (s.postAt what screen position detail).screens = s.screens := by
  obtain ⟨q, p, h⟩ := State.postAt_frame (s := s) (what := what) (screen := screen) (position := position) (detail := detail); rw [h]
@[simp] theorem State.postAt_seen : (s.postAt what screen position detail).seen = s.seen := by
  obtain ⟨q, p, h⟩ := State.postAt_frame (s := s) (what := what) (screen := screen) (position := position) (detail := detail); rw [h]
@[simp] theorem State.postAt_discovery : (s.postAt what screen position detail).discovery = s.discovery := by
  obtain ⟨q, p, h⟩ := State.postAt_frame (s := s) (what := what) (screen := screen) (position := position) (detail := detail); rw [h]
@[simp] theorem State.postAt_library : (s.postAt what screen position detail).library = s.library := by
  obtain ⟨q, p, h⟩ := State.postAt_frame (s := s) (what := what) (screen := screen) (position := position) (detail := detail); rw [h]
@[simp] theorem State.postAt_lines : (s.postAt what screen position detail).lines = s.lines := by
  obtain ⟨q, p, h⟩ := State.postAt_frame (s := s) (what := what) (screen := screen) (position := position) (detail := detail); rw [h]
@[simp] theorem State.postAt_partLive : (s.postAt what screen position detail).partLive = s.partLive := by
  obtain ⟨q, p, h⟩ := State.postAt_frame (s := s) (what := what) (screen := screen) (position := position) (detail := detail); rw [h]
@[simp] theorem State.postAt_partShadow : (s.postAt what screen position detail).partShadow = s.partShadow := by
  obtain ⟨q, p, h⟩ := State.postAt_frame (s := s) (what := what) (screen := screen) (position := position) (detail := detail); rw [h]
@[simp] theorem State.postAt_partSnapshot : (s.postAt what screen position detail).partSnapshot = s.partSnapshot := by
  obtain ⟨q, p, h⟩ := State.postAt_frame (s := s) (what := what) (screen := screen) (position := position) (detail := detail); rw [h]
@[simp] theorem State.postAt_controlOut : (s.postAt what screen position detail).controlOut = s.controlOut := by
  obtain ⟨q, p, h⟩ := State.postAt_frame (s := s) (what := what) (screen := screen) (position := position) (detail := detail); rw [h]
@[simp] theorem State.postAt_paceOut : (s.postAt what screen position detail).paceOut = s.paceOut := by
  obtain ⟨q, p, h⟩ := State.postAt_frame (s := s) (what := what) (screen := screen) (position := position) (detail := detail); rw [h]
@[simp] theorem State.postAt_pending : (s.postAt what screen position detail).pending = s.pending := by
  obtain ⟨q, p, h⟩ := State.postAt_frame (s := s) (what := what) (screen := screen) (position := position) (detail := detail); rw [h]
@[simp] theorem State.postAt_phase : (s.postAt what screen position detail).port.phase = s.port.phase := by
  obtain ⟨q, p, h⟩ := State.postAt_frame (s := s) (what := what) (screen := screen) (position := position) (detail := detail); rw [h]
@[simp] theorem State.postAt_holding : (s.postAt what screen position detail).port.holding = s.port.holding := by
  obtain ⟨q, p, h⟩ := State.postAt_frame (s := s) (what := what) (screen := screen) (position := position) (detail := detail); rw [h]
@[simp] theorem State.postAt_received : (s.postAt what screen position detail).port.received = s.port.received := by
  obtain ⟨q, p, h⟩ := State.postAt_frame (s := s) (what := what) (screen := screen) (position := position) (detail := detail); rw [h]
@[simp] theorem State.scr_postAt : (s.postAt what screen position detail).scr j = s.scr j := by
  simp only [State.scr, State.postAt_screens]
@[simp] theorem State.scr_post : (s.post what i detail).scr j = s.scr j := State.scr_postAt
end

/-! ### Pace messages -/

/-- A pace message's payload has the Ethernet minimum. -/
theorem pacePayload_length (hold : Bool) (id : StreamId) (count : Nat) :
    (pacePayload hold id count).length = Config.ethernetMinimum := by
  simp [pacePayload, u8, u16, u32, beBytes, Config.ethernetMinimum]

/-- A pace message goes out or, with nowhere to send it, does not; nothing else changes. -/
theorem State.sendPace_frame {l : Letter} {hold : Bool} {count : Nat} :
    ∃ out, s.sendPace i l hold count = { s with paceOut := s.paceOut ++ out } := by
  unfold State.sendPace
  split
  · exact ⟨_, rfl⟩
  · exact ⟨[], by simp⟩

/-- A slot that is not holding ends no holding (R15). -/
theorem State.endHolding_not {l : Letter} (h : (s.slot i l).holding = false) : s.endHolding i l = s := by
  simp [State.endHolding, h]

/-! ### The clock's commands -/

/-- A command that finds the clock as it would leave it changes nothing (R134). -/
theorem State.clockCommand_idle {k : ClockCause} :
    ((s.scr i).clock.state = .running → s.clockCommand i .start k = s) ∧
    ((s.scr i).clock.state = .stopped → s.clockCommand i .stop k = s) ∧
    ((s.scr i).clock.state ≠ .running → s.clockCommand i .hold k = s) ∧
    (∀ p, (s.scr i).clock.clampPosition p = (s.scr i).clock.position → s.clockCommand i (.reload p) k = s) := by
  refine ⟨?_, ?_, ?_, ?_⟩ <;> intros <;> simp_all [State.clockCommand]

/-! ### Lines -/

/-- A pulse in progress is on a line that is ON, after every operation (R172). -/
theorem Line.operate_pulse_on {now : PartTime} {op : LineOperation} {x : Line} :
    (Line.operate now op x).pulse.isSome = true → (Line.operate now op x).level = true := by
  cases op <;> simp [Line.operate]

/-! ### Arithmetic -/

/-- A step goes toward the target and never past it (R51). -/
theorem stepToward_between {c target : Int} {rate : Nat} :
    (c ≤ target → c ≤ stepToward c target rate ∧ stepToward c target rate ≤ target) ∧
    (target ≤ c → target ≤ stepToward c target rate ∧ stepToward c target rate ≤ c) := by
  unfold stepToward
  constructor <;> intro h <;> split <;> (try split) <;> omega

/-- A clamped value lies in its range. -/
theorem clampInt_mem {lo hi v : Int} (h : lo ≤ hi) : lo ≤ clampInt lo hi v ∧ clampInt lo hi v ≤ hi := by
  unfold clampInt; omega

/-- A value in the range is its own clamp. -/
theorem clampInt_of_mem {lo hi v : Int} (h₁ : lo ≤ v) (h₂ : v ≤ hi) : clampInt lo hi v = v := by
  unfold clampInt; omega

/-- What the search finds: for a property that holds up to some point and not beyond, the greatest number below
acc + 2^bits that has it, if acc has it. -/
theorem greatest_spec {p : Nat → Bool} (mono : ∀ a b, a ≤ b → p b = true → p a = true) (bits acc : Nat)
    (h : p acc = true) :
    p (greatest p bits acc) = true ∧ acc ≤ greatest p bits acc ∧ greatest p bits acc < acc + 2 ^ bits ∧
      ∀ n, n < acc + 2 ^ bits → p n = true → n ≤ greatest p bits acc := by
  induction bits generalizing acc with
  | zero =>
    simp only [greatest, Nat.pow_zero]
    exact ⟨h, Nat.le_refl _, Nat.lt_succ_self _, fun n hn _ => by omega⟩
  | succ k ih =>
    simp only [greatest]
    have hk : 2 ^ (k + 1) = 2 ^ k + 2 ^ k := by rw [Nat.pow_succ]; omega
    cases hp : p (acc + 2 ^ k)
    · have r := ih acc h
      simp only [Bool.false_eq_true, if_false]
      refine ⟨r.1, r.2.1, by omega, fun n hn hpn => ?_⟩
      rcases Nat.lt_or_ge n (acc + 2 ^ k) with hlt | hge
      · exact r.2.2.2 n hlt hpn
      · have := mono _ _ hge hpn
        simp_all
    · have r := ih (acc + 2 ^ k) hp
      simp only [if_true]
      exact ⟨r.1, by omega, by omega, fun n hn hpn => r.2.2.2 n (by omega) hpn⟩

end Sys2Proof.Machine
end

