-- ==== Sys2Proof/Laws/PerInstr.lean ====
section
/-! SUPPORT. Statements about every command, one lemma per constructor. `Framed`: a command that a frame asks for is asked
for by a frame of a served kind (R192, R194), so the port never answers it BAD_KIND. -/

namespace Sys2Proof.Laws.Framed

open Sys2Proof.Machine

/-- A frame that asks for the command has a served kind. -/
def Statement (i : Instr) : Prop := ∀ f, frameOf i = some f → unserved f.kind = false

/-- A request's frame has the kind its row has. -/
theorem of_some {q : Req} {kind : Byte} {payload : List Byte} {f : Frame} (hk : unserved kind = false)
    (h : (if q.lengthOk then some ({ tag := q.tag, kind := kind, payload := payload } : Frame) else none) = some f) :
    unserved f.kind = false := by
  split at h
  · cases h; exact hk
  · cases h

theorem bind (q : Req) (screen slot : Nat) (stream : StreamId) : Statement (.bind q screen slot stream) := fun _ h => of_some rfl h
theorem unbind (q : Req) (screen slot : Nat) : Statement (.unbind q screen slot) := fun _ h => of_some rfl h
theorem setIntake (q : Req) (screen start low high policy pacing : Nat) : Statement (.setIntake q screen start low high policy pacing) := fun _ h => of_some rfl h
theorem setSource (q : Req) (screen slot : Nat) : Statement (.setSource q screen slot) := fun _ h => of_some rfl h
theorem listSeen (q : Req) (discovery : Nat) : Statement (.listSeen q discovery) := fun _ h => of_some rfl h
theorem setLayout (q : Req) (screen : Nat) (mask : Byte) (topology delay : Nat) : Statement (.setLayout q screen mask topology delay) := fun _ h => of_some rfl h
theorem setFormat (q : Req) (screen format : Nat) : Statement (.setFormat q screen format) := fun _ h => of_some rfl h
theorem setFader (q : Req) (screen position ramp : Nat) : Statement (.setFader q screen position ramp) := fun _ h => of_some rfl h
theorem setLimit (q : Req) (screen position : Nat) : Statement (.setLimit q screen position) := fun _ h => of_some rfl h
theorem setTrim (q : Req) (screen : Nat) (mask : Byte) (trim : Int) : Statement (.setTrim q screen mask trim) := fun _ h => of_some rfl h
theorem setMute (q : Req) (screen : Nat) (mask : Byte) (on : Nat) : Statement (.setMute q screen mask on) := fun _ h => of_some rfl h
theorem loadPreset (q : Req) (slot mode : Nat) (mask : Byte) (buses : List BusContents) : Statement (.loadPreset q slot mode mask buses) := fun _ h => of_some rfl h
theorem dropPreset (q : Req) (slot : Nat) : Statement (.dropPreset q slot) := fun _ h => of_some rfl h
theorem selectPreset (q : Req) (screen preset : Nat) : Statement (.selectPreset q screen preset) := fun _ h => of_some rfl h
theorem setMeter (q : Req) (screen window : Nat) (calibration : Int) : Statement (.setMeter q screen window calibration) := fun _ h => of_some rfl h
theorem setAlarm (q : Req) (screen kind : Nat) (threshold hysteresis : Int) (raise clear latch interval count : Nat) : Statement (.setAlarm q screen kind threshold hysteresis raise clear latch interval count) := fun _ h => of_some rfl h
theorem ackAlarm (q : Req) (screen kind bus : Nat) : Statement (.ackAlarm q screen kind bus) := fun _ h => of_some rfl h
theorem setGuard (q : Req) (screen enable step interval : Nat) (floor : Int) (release : Nat) : Statement (.setGuard q screen enable step interval floor release) := fun _ h => of_some rfl h
theorem setClock (q : Req) (screen mode length endMode pass flywheel : Nat) : Statement (.setClock q screen mode length endMode pass flywheel) := fun _ h => of_some rfl h
theorem clock (q : Req) (screen command position : Nat) : Statement (.clock q screen command position) := fun _ h => of_some rfl h
theorem setTrigger (q : Req) (screen entry line edge position : Nat) : Statement (.setTrigger q screen entry line edge position) := fun _ h => of_some rfl h
theorem readCapture (q : Req) (screen : Nat) : Statement (.readCapture q screen) := fun _ h => of_some rfl h
theorem loadCue (q : Req) (screen number time : Nat) (condition : RawCondition) (actions : List RawAction) : Statement (.loadCue q screen number time condition actions) := fun _ h => of_some rfl h
theorem dropCue (q : Req) (screen number : Nat) : Statement (.dropCue q screen number) := fun _ h => of_some rfl h
theorem clearCues (q : Req) (screen : Nat) : Statement (.clearCues q screen) := fun _ h => of_some rfl h
theorem fire (q : Req) (screen number : Nat) : Statement (.fire q screen number) := fun _ h => of_some rfl h
theorem fireActions (q : Req) (screen : Nat) (actions : List RawAction) : Statement (.fireActions q screen actions) := fun _ h => of_some rfl h
theorem setLine (q : Req) (line : Nat) (fields : RawLine) : Statement (.setLine q line fields) := fun _ h => of_some rfl h
theorem driveLine (q : Req) (line operation width : Nat) : Statement (.driveLine q line operation width) := fun _ h => of_some rfl h
theorem setPriority (q : Req) (kind priority : Nat) : Statement (.setPriority q kind priority) := fun _ h => of_some rfl h
theorem setAttention (q : Req) (threshold urgent : Nat) : Statement (.setAttention q threshold urgent) := fun _ h => of_some rfl h
theorem readEvents (q : Req) (n : Nat) : Statement (.readEvents q n) := fun _ h => of_some rfl h
theorem releaseEvents (q : Req) (n : Nat) : Statement (.releaseEvents q n) := fun _ h => of_some rfl h
theorem snapshot (q : Req) (scope clear : Nat) : Statement (.snapshot q scope clear) := fun _ h => of_some rfl h
theorem readStats (q : Req) (scope : Nat) : Statement (.readStats q scope) := fun _ h => of_some rfl h
theorem hello (q : Req) : Statement (.hello q) := fun _ h => of_some rfl h
theorem query (q : Req) (screen : Nat) : Statement (.query q screen) := fun _ h => of_some rfl h
theorem reset (q : Req) : Statement (.reset q) := fun _ h => of_some rfl h
theorem screenReset (q : Req) (screen : Nat) : Statement (.screenReset q screen) := fun _ h => of_some rfl h
theorem badKind (tag kind : Byte) : Statement (.badKind tag kind) := fun _ h => nomatch h
theorem controlFrame (bytes : List Byte) : Statement (.controlFrame bytes) := fun _ h => nomatch h
theorem frameTimeout : Statement (.frameTimeout) := fun _ h => nomatch h
theorem replyTransmit : Statement (.replyTransmit) := fun _ h => nomatch h
theorem resetTakesEffect : Statement (.resetTakesEffect) := fun _ h => nomatch h
theorem ready : Statement (.ready) := fun _ h => nomatch h
theorem powerOn : Statement (.powerOn) := fun _ h => nomatch h
theorem resetInputRelease : Statement (.resetInputRelease) := fun _ h => nomatch h
theorem audioPacket (dest : Mac) (etherType : BitVec 16) (source : Mac) (payload : List Byte) : Statement (.audioPacket dest etherType source payload) := fun _ h => nomatch h
theorem lostTimeout (screen : ScreenIx) (slot : Letter) : Statement (.lostTimeout screen slot) := fun _ h => nomatch h
theorem blockBoundary (screen : ScreenIx) : Statement (.blockBoundary screen) := fun _ h => nomatch h
theorem clockEnd (screen : ScreenIx) : Statement (.clockEnd screen) := fun _ h => nomatch h
theorem wrap (screen : ScreenIx) : Statement (.wrap screen) := fun _ h => nomatch h
theorem flywheelHold (screen : ScreenIx) : Statement (.flywheelHold screen) := fun _ h => nomatch h
theorem crossfadeComplete (screen : ScreenIx) : Statement (.crossfadeComplete screen) := fun _ h => nomatch h
theorem cutSwap (screen : ScreenIx) : Statement (.cutSwap screen) := fun _ h => nomatch h
theorem cutComplete (screen : ScreenIx) : Statement (.cutComplete screen) := fun _ h => nomatch h
theorem intervalClose (screen : ScreenIx) : Statement (.intervalClose screen) := fun _ h => nomatch h
theorem raiseDwellExpiry (screen : ScreenIx) (alarm : AlarmId) : Statement (.raiseDwellExpiry screen alarm) := fun _ h => nomatch h
theorem clearDwellExpiry (screen : ScreenIx) (alarm : AlarmId) : Statement (.clearDwellExpiry screen alarm) := fun _ h => nomatch h
theorem remind (screen : ScreenIx) (alarm : AlarmId) : Statement (.remind screen alarm) := fun _ h => nomatch h
theorem guardReduceStep (screen : ScreenIx) : Statement (.guardReduceStep screen) := fun _ h => nomatch h
theorem guardReleaseStep (screen : ScreenIx) : Statement (.guardReleaseStep screen) := fun _ h => nomatch h
theorem pinChange (line : LineIx) (high : Bool) : Statement (.pinChange line high) := fun _ h => nomatch h
theorem debounceExpiry (line : LineIx) : Statement (.debounceExpiry line) := fun _ h => nomatch h
theorem pulseExpiry (line : LineIx) : Statement (.pulseExpiry line) := fun _ h => nomatch h
theorem frameLengthDiscard (length : BitVec 16) : Statement (.frameLengthDiscard length) := fun _ h => nomatch h

end Sys2Proof.Laws.Framed
end

