-- ==== Sys2Proof/Tests/Slice0.lean ====
section
/-! SUPPORT. Tests: each check of well-formedness refuses an ill-formed command; the worked examples of spec/ come out as
they are written there; and for every statement with hypotheses a concrete state and operands meet them. -/

set_option Elab.async false

namespace Sys2Proof.Tests

open Sys2Proof.Machine

/-! ### Small states -/

/-- A request of the right length with tag 7. -/
def req : Req := { tag := 7, lengthOk := true }

/-- The part after READY has been sent. -/
def up : State := { State.reset with port := { Port.reset with phase := .accepting } }

/-- `up` with a change of one screen. -/
def on (i : ScreenIx) (f : Screen → Screen) : State := up.modScreen i f

/-- What a command leaves; the state itself if it did not complete. -/
def after (c : Instr) (s : State) : State :=
  match exec c s with
  | .next t => t
  | _ => s

/-- The payload of the newest frame on the reply path. -/
def reply (s : State) : List Byte := (s.port.path.getLast?.map Frame.payload).getD []

/-- The newest event record's kind and detail. -/
def newest (s : State) : Option (EventType × List Byte) := s.queue.records.getLast?.map (fun r => (r.what, r.detail))

/-- Any request is served by a port that accepts, with nothing held and nothing to send. -/
theorem served (c : Instr) (s : State) (h : s.port = up.port) : Served req c s := by
  refine ⟨rfl, ?_, ?_, Or.inl ?_⟩ <;> rw [h] <;> decide

/-! ### Well-formedness: each check refuses -/

theorem test_wf_screen : (Instr.bind req 256 0 1#32).wf = false := by decide
theorem test_wf_count : (Instr.setIntake req 1 65536 1 3 0 0).wf = false := by decide
theorem test_wf_duration : (Instr.setFader req 1 0 4294967296).wf = false := by decide
theorem test_wf_gain : (Instr.setTrim req 1 0 32768).wf = false := by decide
theorem test_wf_coefficient :
    (Instr.loadPreset req 1 0 1 [{ offset := 0, bands := [{ b0 := 8388608, b1 := 0, b2 := 0, a1 := 0, a2 := 0 }] }]).wf =
      false := by decide
theorem test_wf_mask : (Instr.loadPreset req 1 0 3 [{ offset := 0, bands := [] }]).wf = false := by decide
theorem test_wf_payload :
    (Instr.loadPreset req 1 0 255 (List.replicate 8
      { offset := 0, bands := List.replicate 16 { b0 := 0, b1 := 0, b2 := 0, a1 := 0, a2 := 0 } })).wf = false := by
  decide +kernel
theorem test_wf_threshold : (Instr.setAlarm req 1 3 1 0 0 0 0 1 0).wf = false := by decide
theorem test_wf_condition : (Instr.loadCue req 1 1 0 (.unknown 4) []).wf = false := by decide
theorem test_wf_action : (Instr.fireActions req 1 [.unknown 12]).wf = false := by decide
theorem test_wf_line : (Instr.setLine req 1 (.unknown 2)).wf = false := by decide
theorem test_wf_accepts : (Instr.setLine req 20 (.input 255 2 5 8 9999)).wf = true := by decide

/-! ### Decoding -/

theorem test_no_word_spells_a_command : decodeTableWord 16 0 = none := by decide
/-- SET_SOURCE (screen 3, slot B): kind 0x04, two bytes (R17, R200). -/
theorem test_source_frame :
    requestOfFrame { tag := 9, kind := 0x04, payload := [3, 1] } = .setSource { tag := 9, lengthOk := true } 3 1 := by
  decide
/-- FIRE_ACTIONS (2, LINE SET 9; CLOCK STOP): the action kinds are 6 and 10, and CLOCK carries a position (R147, R200). -/
theorem test_actions_frame :
    requestOfFrame { tag := 1, kind := 0x1B, payload := [2, 2, 6, 9, 10, 1, 0, 0, 0, 0] } =
      .fireActions { tag := 1, lengthOk := true } 2 [.lineSet 9, .clock 1 0] := by decide
theorem test_short_payload :
    requestOfFrame { tag := 1, kind := 0x08, payload := [1, 70] } = .setFader { tag := 1, lengthOk := false } 0 0 0 := by
  decide

/-! ### The control port -/

/-- The check of the ASCII digits 1 to 9 under R192's polynomial and start value. -/
theorem test_check : crc16 [0x31, 0x32, 0x33, 0x34, 0x35, 0x36, 0x37, 0x38, 0x39] = 0x29B1#16 := by decide +kernel
/-- A HELLO frame with tag 7 is held, after noise and in two pieces (R192 to R194). -/
theorem test_hello_frame :
    (after (.controlFrame [0x07, 0x24, 0x79, 0xB1]) (after (.controlFrame [0x13, 0xA5, 0, 0]) up)).port.holding =
      [{ tag := 7, kind := 0x24, payload := [] }] := by decide +kernel
theorem test_reply_sent :
    (after .replyTransmit (after (.hello req) up)).port.path = [] ∧
      ((after .replyTransmit (after (.hello req) up)).controlOut.map (fun l => l.take 5)) = [[0xA5, 0, 36, 7, 0x64]] := by
  decide +kernel
theorem test_ready_notice : (after .ready State.reset).port.path = [{ tag := 0, kind := 0xC0, payload := [] }] := by
  decide +kernel
theorem test_bad_kind : (after (.badKind 5 0x7F) up).port.path = [{ tag := 5, kind := 0x40, payload := [0x03] }] := by
  decide +kernel
theorem test_frame_timeout :
    (after .frameTimeout { up with time := 50, port := { up.port with received := [0xA5] } }).partLive.framesDiscarded =
      1 := by decide +kernel
theorem test_length_discard : (after (.frameLengthDiscard 1025) up).partLive.framesDiscarded = 1 := by decide +kernel
theorem test_reset_then_effect :
    (after .resetTakesEffect (after .replyTransmit (after (.reset req) { up with time := 9 }))).time = 0 := by
  decide +kernel
theorem test_power_on : (after .powerOn up).port.phase = .starting := by decide +kernel

/-! ### Stream intake (worked examples of section 1.7) -/

/-- A block of a sequence, MONO, without a position. -/
def block (seq : Seq) : Block :=
  { seq := seq, position := none, format := .mono, mask := 2, channels := Vector.replicate 8 [] }

/-- A screen whose slot A is in a state with the blocks given, expecting e. -/
def slotA (state : SlotState) (e : Seq) (seqs : List Seq) (c : Screen) : Screen :=
  { c with intake := { c.intake with slotA :=
      { state := state, streamId := some 2, source := some 9, holding := false, lastAccepted := some 0,
        expected := some e, buffer := seqs.map block } } }

/-- Slot 2A of "Placing packets across the sequence wrap". -/
def wrapping : State := on 1 (slotA .playing 65530 [65530, 65531, 65532, 65533])

def seqsAt (s : State) : List Seq := (s.slot 1 .a).buffer.map Block.seq

theorem test_arrivals_in_window :
    seqsAt ((wrapping.arrive 1 .a (block 65535) 9).arrive 1 .a (block 3) 9) = [65530, 65531, 65532, 65533, 65535, 3] := by
  decide +kernel
theorem test_arrivals_late_and_far :
    ((wrapping.arrive 1 .a (block 65529) 9).scr 1).live.late = 1 ∧
      ((wrapping.arrive 1 .a (block 65532) 9).scr 1).live.duplicate = 1 ∧
      seqsAt (wrapping.arrive 1 .a (block 58) 9) = [58] ∧
      ((wrapping.arrive 1 .a (block 58) 9).slot 1 .a).state = .filling := by decide +kernel

/-- Screen 3 at boundary n+6 of "Failover and the commanded return": 3A is empty, 3B READY from 5,020 on. -/
def failing : State :=
  on 2 (fun c =>
    { c with intake :=
      { c.intake with
        policy := .failover,
        slotA := { state := .playing, streamId := some 1, source := none, holding := false, lastAccepted := some 0,
                   expected := some 1206, buffer := [] },
        slotB := { state := .ready, streamId := some 2, source := none, holding := false, lastAccepted := some 0,
                   expected := some 5020,
                   buffer := ([5020, 5021, 5022, 5023, 5024, 5025, 5026, 5027] : List Seq).map block } } })

/-- The release of the reset input sends a holding slot's PACE_GO (R198, R15). -/
theorem test_reset_input_release :
    let s := failing.modSlot 2 .a (fun x => { x with holding := true, source := some 9 })
    (after .resetInputRelease s).time = 0 ∧ (after .resetInputRelease s).paceOut.length = 1 := by decide +kernel

theorem test_failover :
    let t := after (.blockBoundary 2) failing
    (t.slot 2 .a).state = .starved ∧ (t.slot 2 .a).expected = some 1206 ∧ (t.slot 2 .b).state = .playing ∧
      (t.slot 2 .b).expected = some 5021 ∧ (t.slot 2 .b).buffer.length = 7 ∧
      (t.scr 2).live.failovers = 1 ∧ (t.scr 2).live.underruns = 1 ∧ (t.scr 2).live.blocksConcealed = 0 := by
  decide +kernel
theorem test_lost :
    (((after (.lostTimeout 0 .a)) { on 0 (slotA .starved 1206 []) with time := 250 }).slot 0 .a).state = .lost ∧
      (((after (.lostTimeout 0 .a)) { on 0 (slotA .starved 1206 []) with time := 249 }).slot 0 .a).state = .starved := by
  decide +kernel

/-- An audio packet of stream 7, sequence 5, position absent, MONO, channel C with 48 zero samples (section 11.4). -/
def monoPacket : List Byte := [0, 0, 0, 7, 0, 5, 0xFF, 0xFF, 0xFF, 0xFF, 1 - 1, 2] ++ List.replicate 144 0

theorem test_packet_fills :
    let t := after (.audioPacket 0xFFFFFFFFFFFF 0x88B5 9 monoPacket) (after (.bind req 1 0 7) up)
    (t.slot 0 .a).state = .filling ∧ (t.slot 0 .a).source = some 9 ∧ (t.slot 0 .a).expected = some 5 := by
  decide +kernel
theorem test_packet_seen :
    (after (.audioPacket 0xFFFFFFFFFFFF 0x88B5 9 monoPacket) up).seen =
      [{ streamId := 7, source := 9, format := .mono }] := by decide +kernel
theorem test_bind_in_use : reply (after (.bind req 2 0 7) (after (.bind req 1 0 7) up)) = [0x06] := by decide +kernel
theorem test_unbind : ((after (.unbind req 1 0) (after (.bind req 1 0 7) up)).slot 0 .a).state = .empty := by
  decide +kernel
theorem test_set_source : ((after (.setSource req 3 1) up).scr 2).intake.staged = .b := by decide +kernel
/-- The pace messages of a slot that reaches the high watermark and of one that is unbound while holding: kind, stream ID,
hold count, zeros (R14, R15, R200). -/
theorem test_pace_messages :
    let s := after (.setIntake req 1 2 1 3 0 1) (on 0 (slotA .playing 10 [10, 11, 12]))
    s.paceOut = [{ dest := 9, etherType := 0x88B5, payload := [0x01, 0, 0, 0, 2, 0, 1] ++ List.replicate 39 0 }] ∧
      (after (.unbind req 1 0) s).paceOut.drop 1 =
        [{ dest := 9, etherType := 0x88B5, payload := [0x02, 0, 0, 0, 2] ++ List.replicate 41 0 }] := by decide +kernel
theorem test_list_seen : reply (after (.listSeen req 0) up) = [0x00, 0x00, 0x00] := by decide +kernel
theorem test_set_intake :
    ((after (.setIntake req 1 2 1 48 0 1) (on 0 (slotA .filling 10 [10, 11, 12]))).slot 0 .a).state = .ready ∧
      ((after (.setIntake req 1 2 1 48 0 1) (on 0 (slotA .filling 10 [10, 11, 12]))).slot 0 .a).expected = some 11 := by
  decide +kernel

/-! ### Surround decoding (worked examples of section 2.8) -/

/-- "Steering on a pure centre passage": d is 120, the target -51, and the thirteenth block reaches it. -/
theorem test_steering :
    dominance 1 0 = 120 ∧ surroundTarget 120 = -51 ∧ steer 0 (-51) = -4 ∧ steer (-48) (-51) = -51 ∧ steer (-51) 0 = -50 := by
  decide +kernel

/-- The block of "Routing a partial stream into a small room", at one sample index. -/
def partialBlock : Taken :=
  { real := true, position := none, format := some .discrete8, mask := 0x7F,
    channels := #v[[5000000], [7000001], [-3], [900000], [-5], [400], [2], []] }

theorem test_partial_stream :
    ((route .discrete8 { Decoder.reset with mask := 0x35 } partialBlock zeroBlock).toList.map
      (fun l => l.head?)) =
      [some 8388607, some 0, some 3499997, some 0, some (-2), some 200, some 0, some 0] := by decide +kernel

/-- "A layout change against the band pool": preset 7 in use on screen 5, another screen holding `others` bands. -/
def pooled (others : Nat) : State :=
  let bus (n : Nat) : BusContents := { offset := 0, bands := List.replicate n { b0 := 0, b1 := 0, b2 := 0, a1 := 0, a2 := 0 } }
  let s := on 4 (fun c => { c with decoder := { c.decoder with mask := 0x3F },
                                   equaliser := { c.equaliser with active := some 6 } })
  let s := s.modScreen 1 (fun c => { c with equaliser :=
    { c.equaliser with switch := .cut, phase := some .fadeOut, delta := others } })
  { s with library := s.library.set 6 (some
    { buses := #v[bus 10, bus 10, bus 10, bus 4, bus 6, bus 6, bus 6, bus 6] }) }

theorem test_layout_against_pool :
    (pooled 590).bandsFree = 4 ∧ reply (after (.setLayout req 5 0xFF 1 0) (pooled 590)) = [0x05] ∧
      (pooled 580).bandsFree = 14 ∧ (after (.setLayout req 5 0xFF 1 0) (pooled 580)).bandsFree = 2 := by decide +kernel
theorem test_set_format : ((after (.setFormat req 1 0xFE) up).scr 0).decoder.forced = none ∧
    ((after (.setFormat req 1 2) up).scr 0).decoder.forced = some .matrix := by decide +kernel

/-! ### Gain stage (worked examples of section 3.7) -/

theorem test_multiplier : multiplier (-18) = 742335 ∧ multiplier 12 = 1320079 ∧ multiplier 0 = 1048576 := by
  decide +kernel
theorem test_scaled :
    scaled 742335 2000000 = 1415892 ∧ scaled 742335 (-2000000) = -1415892 ∧ saturate (scaled 1320079 8000000) = 8388607 := by
  decide +kernel
/-- "A fader ramp cut by the limit". -/
theorem test_fader_ramp :
    ((after (.setFader req 2 85 4000) up).scr 1).gain.fader = { current := 0, target := 30, rate := 1 } := by
  decide +kernel
theorem test_limit_cuts :
    let s := on 1 (fun c => { c with gain := { c.gain with
      faderPosition := 85, fader := { current := 12, target := 30, rate := 1 } } })
    ((after (.setLimit req 2 74) s).scr 1).gain.fader.current = 8 ∧
      ((after (.setLimit req 2 74) s).scr 1).gain.faderPosition = 74 ∧
      ((after (.setLimit req 2 80) s).scr 1).gain.fader = { current := 12, target := 20, rate := 1 } := by decide +kernel
theorem test_trim : ((after (.setTrim req 1 1 100) up).scr 0).gain.trims[0] = 72 := by decide +kernel
/-- "A mute reversed part way": -120 after five boundaries, then back. -/
theorem test_mute :
    let m := Nat.repeat (Stepped.step 24) 5 ((after (.setMute req 7 2 1) up).scr 6).gain.mutes[1]
    m.current = -120 ∧ (Stepped.step 24 { m with target := 0 }).current = -96 := by decide +kernel
/-- "Silence by the switch term": the eighth boundary reaches -480. -/
theorem test_switch_term :
    (Nat.repeat (Stepped.step 60) 7 { current := 0, target := -480 }).current = -420 ∧
      (Nat.repeat (Stepped.step 60) 8 { current := 0, target := -480 }).current = -480 := by decide +kernel

/-! ### Equaliser (worked examples of section 4.7) -/

theorem test_crossfade_samples :
    mixAt 1 1000 (-1000) = 937 ∧ mixAt 16 1000 (-1000) = 0 ∧ mixAt 31 1000 (-1000) = -938 ∧ mixAt 1 3 (-6) = 2 ∧
      mixAt 16 3 (-6) = -2 ∧ mixAt 31 3 (-6) = -6 := by decide +kernel
/-- An unstable band is named by its bus and index: a2 = 1 in Q2.22 (R68). -/
theorem test_unstable_band :
    reply (after (.loadPreset req 1 0 4 [{ offset := 0, bands := [{ b0 := 0, b1 := 0, b2 := 0, a1 := 0, a2 := 0 },
      { b0 := 0, b1 := 0, b2 := 0, a1 := 0, a2 := 4194304 }] }]) up) = [0x02, 2, 1] := by decide +kernel
theorem test_select_crossfade :
    let s := pooled 0
    reply (after (.selectPreset req 1 7) (s.modScreen 0 (fun c => { c with decoder := { c.decoder with mask := 5 } }))) =
      [0x00, 0x01, 0x02, 0x3E] := by decide +kernel
theorem test_drop_in_use : reply (after (.dropPreset req 7) (pooled 0)) = [0x06] ∧
    reply (after (.dropPreset req 8) (pooled 0)) = [0x00] := by decide +kernel

/-- A screen in the last boundary of each part of a switch to NONE. -/
def switching (sw : SwitchState) (phase : Option CutPhase) (count : Nat) (current target : Int) : State :=
  on 0 (fun c =>
    { c with equaliser := { c.equaliser with switch := sw, phase := phase, count := count,
                                             incoming := if phase = some .fadeIn then none else some none },
             gain := { c.gain with switchTerm := { current := current, target := target } } })

theorem test_crossfade_complete :
    ((after (.crossfadeComplete 0) (switching .crossfade none 31 0 0)).scr 0).equaliser.switch = .idle ∧
      ((after (.crossfadeComplete 0) (switching .crossfade none 30 0 0)).scr 0).equaliser.count = 30 := by decide +kernel
theorem test_cut :
    ((after (.cutSwap 0) (switching .cut (some .fadeOut) 0 (-420) (-480))).scr 0).equaliser.phase = some .fadeIn ∧
      ((after (.cutComplete 0) (switching .cut (some .fadeIn) 0 (-60) 0)).scr 0).equaliser.switch = .idle := by
  decide +kernel

/-! ### Meters (worked examples of section 5.7) -/

/-- "Five buses at a steady level", and "Filling a short ring" at 4, 5 and 10 intervals. -/
theorem test_levels :
    levelOf (100 * 337770133114080) 100 = -200 ∧ levelOf (100 * 1688850665570400) 100 = -130 ∧
      levelOf 1688850665570400 4 = -190 ∧ levelOf (2 * 1688850665570400) 5 = -170 ∧
      levelOf (7 * 1688850665570400) 10 = -146 := by decide +kernel
theorem test_set_meter : reply (after (.setMeter req 5 50 9999) up) = [0x00, 0, 50, 0x05, 0x78] := by decide +kernel
theorem test_interval_close :
    let s := on 0 (fun c => { c with meters := { c.meters with boundaryCount := 9 } })
    ((after (.intervalClose 0) s).scr 0).meters.totalIntervals = 1 ∧ (after (.intervalClose 1) s) = s := by decide +kernel

/-! ### Alarms and guard (worked examples of section 6.7) -/

/-- The settings of "The guard holding a loud programme at the limit" and of "A latched clip alarm". -/
def overSettings : AlarmSettings := Alarms.reset.overSettings
def clipSettings : AlarmSettings :=
  { threshold := 5, hysteresis := 0, raiseDwell := 0, clearDwell := 1000, latch := true, remindInterval := 60,
    remindLimit := 2 }

theorem test_over_level_dwell :
    (Alarm.afterCloses overSettings 200 Alarm.reset).state = .pending ∧
      (Alarm.afterCloses overSettings 201 Alarm.reset).state = .raised := by decide +kernel
theorem test_clip_latches :
    let raised := (Alarm.reset.move clipSettings true).alarm
    let clearing := (raised.move clipSettings false).alarm
    let falling (x : Alarm) : Alarm := (x.move clipSettings false).alarm
    raised.state = .raised ∧ clearing.state = .clearing ∧ (Nat.repeat falling 99 clearing).dwell = 99 ∧
      (Nat.repeat falling 100 clearing).state = .latched := by decide +kernel
theorem test_classes :
    levelClass overSettings 1051 = .above ∧ levelClass overSettings 1050 = .band ∧
      levelClass overSettings 1031 = .band ∧ levelClass overSettings 1030 = .below := by decide +kernel
theorem test_set_alarm : reply (after (.setAlarm req 7 1 5 0 0 995 1 60 2) up) =
    [0x00, 5, 0, 0, 0, 0, 0, 0, 0x03, 0xE8, 1, 0, 0, 0, 60, 2] := by decide +kernel
theorem test_ack_latched :
    let s := on 6 (fun c => { c with alarms := c.alarms.put (.clip 1) { Alarm.reset with state := .latched } })
    reply (after (.ackAlarm req 7 1 1) s) = [0x00, 0x00] ∧ reply (after (.ackAlarm req 7 1 2) s) = [0x08, 0x00] := by
  decide +kernel
theorem test_set_guard : ((after (.setGuard req 3 1 3 500 (-36) 10000) up).scr 2).guard.stepTimer = 50 := by
  decide +kernel

/-- A screen one boundary before a close, with an enabled guard and the alarm RAISED; the silent programme reads -1,200
dBFS, which the limit is set below or far above. -/
def closing (loud : AlarmState) (dwell : Nat) (limit : Int) (g : GuardBlock) : State :=
  on 0 (fun c =>
    { c with
      meters := { c.meters with boundaryCount := 9 },
      alarms := { c.alarms with
        overLevel := { Alarm.reset with state := loud, dwell := dwell },
        overSettings := { c.alarms.overSettings with threshold := limit, hysteresis := 0, clearDwell := 0 } },
      guard := g })

def guardOn : GuardBlock := { GuardBlock.reset with enabled := true }

theorem test_guard_reduces :
    ((after (.guardReduceStep 0) (closing .raised 0 (-200) guardOn)).scr 0).guard.value = -3 ∧
      newest (after (.guardReduceStep 0) (closing .raised 0 (-200) guardOn)) = some (.guardDown, [0xFF, 0xFD, 0xFF, 0x6A]) := by
  decide +kernel
theorem test_guard_releases :
    ((after (.guardReleaseStep 0)
      (closing .idle 0 1050 { guardOn with value := -18, releaseCount := 999, direction := .down })).scr 0).guard.value =
      -15 := by decide +kernel
theorem test_raise_at_close :
    (((after (.raiseDwellExpiry 0 .overLevel) (closing .pending 199 (-200) guardOn)).scr 0).alarms.get .overLevel).state =
      .raised ∧
    after (.raiseDwellExpiry 0 .overLevel) (closing .pending 198 (-200) guardOn) = closing .pending 198 (-200) guardOn := by
  decide +kernel
theorem test_clear_at_close :
    (((after (.clearDwellExpiry 0 .overLevel) (closing .raised 0 1050 guardOn)).scr 0).alarms.get .overLevel).state =
      .idle := by decide +kernel
/-- A reminder falls due after 6,000 closes in RAISED (R112). -/
theorem test_remind :
    (({ Alarm.reset with state := .raised, remindCount := 5999 } : Alarm).move clipSettings true).post = some (.remind 1) ∧
    (({ Alarm.reset with state := .raised, remindCount := 5998 } : Alarm).move clipSettings true).post = none := by
  decide +kernel

/-! ### Clocks and cues (worked examples of sections 7.7 and 8.9) -/

def cue (number time : Nat) (condition : Option Condition) (actions : List CueAction) : CueEntry :=
  { number := number, time := time, condition := condition, actions := actions, state := .armed }

/-- A screen with a running free clock and a cue list. -/
def running (position : Nat) (cues : List CueEntry) : State :=
  on 0 (fun c => { c with clock := { c.clock with state := .running, position := position, evaluated := position },
                          cues := cues })

/-- "A cue that loops a passage": the reload at 60,000, and the boundary after it. -/
theorem test_looped_passage :
    let s := running 59999 [cue 12 30000 none [], cue 15 45000 none [], cue 10 60000 none [.clock (.reload 30000)]]
    let t := after (.blockBoundary 0) s
    (t.scr 0).clock.position = 30000 ∧ (t.scr 0).clock.mark = true ∧
      ((after (.blockBoundary 0) t).scr 0).clock.position = 30000 ∧
      ((after (.blockBoundary 0) t).scr 0).cues.map CueEntry.state = [.armed, .armed, .armed] := by decide +kernel

/-- "A chase jump over a scene": the walk of the movement 400,000 to 400,750. -/
theorem test_chase_jump :
    let line4 : Line := { Line.reset true with config := .output (.cue 0 .retain) false, level := false }
    let cues := [cue 20 400100 none [.fader 64 2000, .lineSet 3], cue 21 400300 none [.linePulse 3 500, .mark 7],
      cue 22 400500 (some (.format .matrix)) [.offset 0x30 (-12) 1000], cue 23 400700 none [.fader 60 3000],
      cue 24 400800 none [.mark 8]]
    let s := { running 400750 cues with lines := up.lines.set 3 line4 }
    let t := s.evaluateCues 0 { old := 400000, new := 400750, wrapped := false }
    (t.scr 0).cues.map CueEntry.state = [.passed, .passed, .skipped, .fired, .armed] ∧ (t.line 3).level = true ∧
      (t.scr 0).gain.fader = { current := -12, target := -20, rate := 1 } ∧ (t.scr 0).live.cuesPassed = 2 := by
  decide +kernel

/-- "A looped show": the wrap fires cue 3 and arms all. -/
theorem test_wrap :
    let s := on 7 (fun c => { c with
      clock := { c.clock with state := .running, length := 10000, endMode := .loop, position := 9999, evaluated := 9999 },
      cues := [cue 1 0 none [], cue 3 10000 none []] })
    let t := after (.wrap 7) s
    (t.scr 7).clock.position = 0 ∧ (t.scr 7).cues.map CueEntry.state = [.armed, .armed] ∧
      (t.scr 7).live.cuesFired = 1 ∧
      t.queue.records.head?.map (fun r => (r.what, r.position)) = some (.clockWrap, some 0) := by decide +kernel
theorem test_clock_end :
    let s := on 0 (fun c => { c with clock := { c.clock with state := .running, length := 5, position := 4 } })
    ((after (.clockEnd 0) s).scr 0).clock.state = .stopped := by decide +kernel
/-- "A stream that stops without a backup", at boundary m+2,001. -/
theorem test_flywheel :
    let s := on 4 (fun c => { c with
      clock := { c.clock with state := .running, mode := .chase, position := 502000, flywheelCount := 2000 } })
    ((after (.flywheelHold 4) s).scr 4).clock.state = .held ∧
      ((after (.flywheelHold 4) s).scr 4).clock.position = 502000 := by decide +kernel
theorem test_clock_start : reply (after (.clock req 4 0 0) up) = [0x00, 0x01, 0, 0, 0, 0] := by decide +kernel
theorem test_set_clock :
    ((after (.setClock req 1 0 50 1 250 10) (running 60 [])).scr 0).clock.position = 50 ∧
      ((after (.setClock req 1 0 50 1 250 10) (running 60 [])).scr 0).clock.mark = true := by decide +kernel
theorem test_set_trigger : reply (after (.setTrigger req 1 2 20 2 7) up) = [0x00, 2, 20, 2, 0, 0, 0, 7] := by
  decide +kernel
theorem test_read_capture : (reply (after (.readCapture req 1) up)) = 0x00 :: List.replicate 8 0xFF := by decide +kernel
theorem test_load_cue :
    reply (after (.loadCue req 1 9999 5 .absent [.mark 1]) up) = [0x00, 0x27, 0x0F, 0x00, 0x03, 0xFF] ∧
      reply (after (.loadCue req 1 1 5 .absent [.mark 1, .lineSet 0]) up) = [0x02, 0x02] := by decide +kernel
theorem test_drop_and_clear :
    reply (after (.dropCue req 1 15) (running 0 [cue 15 45000 none []])) = [0x00, 0x00, 0x04, 0x00] ∧
      reply (after (.clearCues req 1) (running 0 [cue 15 45000 none []])) = [0x00, 0x00, 0x01] := by decide +kernel
/-- "The immediate slot meeting the list": the second request finds the slot occupied. -/
theorem test_fire :
    let s := after (.fireActions req 1 [.clock 1 0]) (running 0 [cue 5 90000 none []])
    reply s = [0x00] ∧ reply (after (.fire req 1 5) s) = [0x01] ∧
      ((after (.blockBoundary 0) s).scr 0).clock.state = .stopped := by decide +kernel

/-! ### Contact lines (worked examples of section 9.5) -/

/-- "A start button with contact bounce": line 12, falling, START of screen 4. -/
def button : State :=
  { up with lines := up.lines.set 11 { Line.reset true with config := .input 20 .falling (.start 3) } }

theorem test_button :
    let at1000 := after (.pinChange 11 false) { button with time := 1000 }
    let at1015 := after (.pinChange 11 false) { after (.pinChange 11 true) { at1000 with time := 1008 } with time := 1015 }
    let at1035 := after (.debounceExpiry 11) { at1015 with time := 1035 }
    (at1000.line 11).debounceTimer = some 1020 ∧ (at1035.scr 3).clock.state = .running ∧
      (at1035.line 11).level = false := by decide +kernel
theorem test_button_records :
    let s := after (.pinChange 11 false) { button with time := 1015 }
    (after (.debounceExpiry 11) { s with time := 1035 }).queue.records.map (fun r => (r.what, r.detail)) =
      [(.clockState, [0, 1, 2, 12]), (.contactEdge, [12, 1, 1, 0xFF, 0xFF, 0])] := by decide +kernel

/-- "A pulse restarted and cancelled": line 5 of screen 2, inverted, FORCE_OFF. -/
def pulsed : State :=
  { up with lines := up.lines.set 4 { Line.reset true with config := .output (.cue 1 .forceOff) true, level := false } }

theorem test_pulse_toggle :
    let s := after (.driveLine req 5 3 500) pulsed
    let t := after (.driveLine req 5 3 300) { s with time := 200 }
    (s.line 4).pulse = some 500 ∧ (t.line 4).pulse = some 500 ∧ t.drivenPin 4 = some false ∧
      ((after (.driveLine req 5 2 0) { t with time := 400 }).line 4).level = false := by decide +kernel
theorem test_pulse_ends :
    let s := after (.driveLine req 5 3 500) pulsed
    ((after (.pulseExpiry 4) { s with time := 499 }).line 4).level = true ∧
      ((after (.pulseExpiry 4) { s with time := 500 }).line 4).level = false := by decide +kernel
theorem test_set_line :
    (after (.setLine req 5 (.output 0 2 0 1 1)) up).line 4 =
      { Line.reset true with config := .output (.cue 1 .forceOff) true, level := false } := by decide +kernel

/-! ### Event queue and statistics (worked examples of section 10.7) -/

/-- "The queue under pressure": `n` records queued, attention outstanding. -/
def pressed (n lost : Nat) : State :=
  { up with queue := { up.queue with
    attention := true, lost := lost,
    records := List.replicate n
      { what := .cueMark, screen := none, time := 0, position := none, lost := 0, detail := [] } } }

theorem test_pressure :
    ((pressed 223 0).postAt .clockState none none []).queue.records.length = 224 ∧
      ((pressed 224 0).postAt .cueMark none none []).queue.lost = 1 ∧
      ((pressed 224 2).postAt .streamState none none []).queue.records.getLast?.map EventRecord.lost = some 2 := by
  decide +kernel
theorem test_read_ends_attention :
    (after (.readEvents req 16) (pressed 225 0)).queue.attention = false ∧
      (((after (.readEvents req 16) (pressed 225 0)).postAt .alarmRaised none none []).port.path.getLast?.map Frame.kind) =
        some 0xC1 := by decide +kernel
theorem test_release : reply (after (.releaseEvents req 200) (pressed 226 0)) = [0x00, 0, 200, 0, 26] := by decide +kernel
theorem test_set_priority : reply (after (.setPriority req 8 0) up) = [0x00, 6, 5, 3, 3, 3, 3, 0] ∧
    reply (after (.setPriority req 2 0) up) = [0x02] := by decide +kernel
theorem test_set_attention : reply (after (.setAttention req 64 7) up) = [0x00, 64, 7] := by decide +kernel
/-- "A snapshot with clear". -/
theorem test_snapshot :
    let s := { on 2 (fun c => { c with live := { c.live with blocksConcealed := 7, underruns := 2 } }) with time := 500000 }
    let t := after (.snapshot req 3 1) s
    (t.scr 2).shadow.blocksConcealed = 7 ∧ (t.scr 2).live = Counters.zero ∧
      (reply (after (.readStats req 3) t)).take 6 = [0x00, 0x01, 0x00, 0x07, 0xA1, 0x20] := by decide +kernel
theorem test_query : (reply (after (.query req 8) up)).take 9 =
    [0x00, 0, 0, 0, 0xFF, 0xFF, 0xFF, 0xFF, 0xFF] := by decide +kernel
theorem test_screen_reset : ((after (.screenReset req 1) (running 5 [])).scr 0).clock.state = .stopped := by
  decide +kernel

/-! ### Witnesses: for every statement with hypotheses, states and operands that meet them, each clause at its ends -/

/-- Any request is handed to service by a port that accepts, with nothing held and nothing to send. -/
theorem serving (c : Instr) (s : State) (h : s.port = up.port) : Serving c s := by
  refine ⟨?_, ?_, Or.inl ?_⟩ <;> rw [h] <;> decide

/-- `n` frames held and `p` on the reply path. -/
def held (n p : Nat) : State :=
  { up with port := { up.port with holding := List.replicate n { tag := 1, kind := 0x24, payload := [] },
                                   path := List.replicate p { tag := 1, kind := 0x64, payload := [] } } }

theorem witness_StepTakesFrontCommand :
    ({ up with pending := [.ready] } : State).pending = .ready :: [] ∧ up.pending = [] := ⟨rfl, rfl⟩

theorem witness_EveryCommandCompletes : exec .ready State.reset = .next (after .ready State.reset) := rfl

theorem witness_RequestRoundTrip :
    (Instr.setSource req 8 1).wf = true ∧ (frameOf (.setSource req 8 1)).isSome = true ∧
      (Instr.setFader req 255 255 4294967295).wf = true ∧ (frameOf (.setFader req 255 255 4294967295)).isSome = true := by
  decide

/-- A request of a wrong length, plain and LOAD_CUE; the ends of the unserved kinds; a port that does not serve. -/
theorem witness_PortAnswersByItself :
    ((Instr.setSource { tag := 7, lengthOk := false } 0 0).request = some ({ tag := 7, lengthOk := false }, 0x04) ∧
      Serving (.setSource { tag := 7, lengthOk := false } 0 0) up) ∧
    (Instr.loadCue { tag := 7, lengthOk := false } 0 0 0 .absent []).request =
      some ({ tag := 7, lengthOk := false }, 0x17) ∧
    ¬ Serving (.setSource req 1 0) State.reset ∧
    (Serving (.badKind 1 0) up ∧ (0x28 : Byte).toNat = 0x28 ∧ Serving (.badKind 1 0x28) up ∧ Serving (.badKind 1 0xFF) up) :=
  ⟨⟨rfl, serving _ _ rfl⟩, rfl, fun h => (nomatch h.1), serving _ _ rfl, rfl, serving _ _ rfl, serving _ _ rfl⟩

/-- Both ends of a range, and LOAD_CUE. -/
theorem witness_OutOfRangeIsRefused :
    ((Instr.setMeter req 1 9 0).request = some (req, 0x0F) ∧ ¬ (Instr.setMeter req 1 9 0).inRange ∧
      Served req (.setMeter req 1 9 0) up) ∧
    (¬ (Instr.setMeter req 8 6001 0).inRange ∧ ¬ (Instr.query req 9).inRange ∧
      ¬ (Instr.loadCue req 1 10000 0 .absent []).inRange ∧ Served req (.loadCue req 1 10000 0 .absent []) up) :=
  ⟨⟨rfl, fun h => absurd h.2.1 (by decide), served _ _ rfl⟩, fun h => absurd h.2.2 (by decide),
    fun h => absurd h.2 (by decide), fun h => absurd h.2.1.2 (by decide), served _ _ rfl⟩

/-- Frames without and with the largest payload; three and four held; thirteen and fourteen frames to send. -/
theorem witness_ValidFrameIsHeldOrBusy :
    (held 3 0).port.phase ≠ .starting ∧ (held 3 0).port.received = [] ∧ (List.replicate 1024 (0 : Byte)).length ≤ 1024 ∧
      (held 3 0).port.holding.length < 4 ∧ (held 4 13).port.holding.length = 4 ∧ (held 4 13).port.path.length < 14 ∧
      ¬ (held 4 14).port.path.length < 14 ∧ State.reset.port.phase = .starting := by decide +kernel

theorem witness_BadFramesAreDiscarded :
    (up.port.phase ≠ .starting ∧ up.port.received = [] ∧
      (∀ b ∈ u16 0 ++ [(7 : Byte), 0x24] ++ [] ++ [0, 0], b ≠ 0xA5) ∧
      crc16 (u16 0 ++ [7, 0x24] ++ []) ≠ (0 : Byte) ++ (0 : Byte)) ∧
    ((4 : Byte) ≠ 0xA5 ∧ (1 : Byte) ≠ 0xA5 ∧ 1024 < ((4 : Byte) ++ (1 : Byte)).toNat ∧
      1024 < ((0xFF : Byte) ++ (0xFF : Byte)).toNat) ∧
    (50 ≤ ((50 : PartTime) - up.port.lastByte).toNat ∧
      ({ up with port := { up.port with received := [0xA5] } } : State).port.received ≠ []) ∧
    (crc16 (u16 2 ++ [0xA5, 0x24] ++ [0xA5, 0]) ≠ (0xA5 : Byte) ++ (0 : Byte) ∧ 1024 < (0xA5A5 : BitVec 16).toNat) := by
  decide +kernel

theorem witness_PathSendsOldestAndReadyOnce :
    (held 0 1).port.path = { tag := 1, kind := 0x64, payload := [] } :: [] ∧ State.reset.port.phase = .starting ∧
      up.port.phase ≠ .starting := by decide +kernel

/-- RESET served; its reply sent; its reply still on the path. -/
theorem witness_ResetsOfThePart :
    Served req (.reset req) up ∧
    ((after .replyTransmit (after (.reset req) up)).port.phase = .resetServed ∧
      (after .replyTransmit (after (.reset req) up)).port.path = []) ∧
    ∃ f ∈ (after (.reset req) up).port.path, f.kind = 0x66 ∧ f.payload = [0x00] :=
  ⟨served _ _ rfl, by decide +kernel, by decide +kernel⟩

theorem witness_ScreenResetRestartsOneScreen :
    Served req (.screenReset req ((0 : ScreenIx).val + 1)) wrapping ∧
      Served req (.screenReset req ((7 : ScreenIx).val + 1)) wrapping := ⟨served _ _ rfl, served _ _ rfl⟩

/-- Fills 223, 224, 255 and 256 against priorities below and at 5, and a priority of 0. -/
theorem witness_AdmissionFollowsPriority :
    (0 < (pressed 223 0).queue.priorities.of .cueMark ∧ (pressed 223 0).queue.records.length < 224) ∧
    ((pressed 224 0).queue.priorities.of .cueMark < 5 ∧ ¬ (pressed 224 0).queue.records.length < 224) ∧
    (5 ≤ (pressed 255 0).queue.priorities.of .streamSeen ∧ (pressed 255 0).queue.records.length < 256) ∧
    ¬ (pressed 256 0).queue.records.length < 256 ∧
    ({ alarm := 0, stream := 0, decode := 0, preset := 0, cue := 0, clock := 0, contact := 0 } : Priorities).of .guardUp =
      0 := by decide +kernel

/-- No attention outstanding, at the threshold and below it, and with an urgent kind; and attention outstanding. -/
theorem witness_AttentionOncePerRead :
    let quiet (n : Nat) : State := (pressed n 0).modQueue (fun q => { q with attention := false })
    (0 < (quiet 15).queue.priorities.of .cueMark ∧ (quiet 15).queue.records.length < 224 ∧
      (quiet 15).queue.threshold ≤ (quiet 15).queue.records.length + 1) ∧
    (¬ (quiet 14).queue.threshold ≤ (quiet 14).queue.records.length + 1 ∧
      (quiet 14).queue.urgent ≤ (quiet 14).queue.priorities.of .guardUp) ∧
    (pressed 15 0).queue.attention = true := by decide +kernel

theorem witness_QueueSettings :
    Served req (.setPriority req 1 0) up ∧ Served req (.setPriority req 2 7) up ∧ Served req (.setPriority req 8 8) up ∧
      Served req (.setAttention req 1 1) up ∧ Served req (.setAttention req 64 7) up ∧
      Served req (.setAttention req 65 0) up :=
  ⟨served _ _ rfl, served _ _ rfl, served _ _ rfl, served _ _ rfl, served _ _ rfl, served _ _ rfl⟩

theorem witness_ReadAndReleaseEvents :
    Served req (.readEvents req 1) (pressed 3 0) ∧ Served req (.readEvents req 16) (pressed 3 0) ∧
      Served req (.readEvents req 17) up ∧ Served req (.releaseEvents req 256) (pressed 3 0) ∧
      Served req (.releaseEvents req 0) up :=
  ⟨served _ _ rfl, served _ _ rfl, served _ _ rfl, served _ _ rfl, served _ _ rfl⟩

theorem witness_SnapshotCopiesInOneStep :
    Served req (.snapshot req ((7 : ScreenIx).val + 1) (boolCode true)) up ∧
      Served req (.snapshot req 255 (boolCode false)) up ∧ Served req (.readStats req ((0 : ScreenIx).val + 1)) up ∧
      Served req (.readStats req 0xFE) up ∧ Served req (.readStats req 0xFF) up :=
  ⟨served _ _ rfl, served _ _ rfl, served _ _ rfl, served _ _ rfl, served _ _ rfl⟩

theorem witness_HelloAndQueryOnlyRead :
    Served req (.hello req) up ∧ Served req (.query req ((7 : ScreenIx).val + 1)) up := ⟨served _ _ rfl, served _ _ rfl⟩

theorem witness_SetLineStartsFresh :
    (lineConfigOf (.input 255 2 5 8 9999) = some (.input 255 .both (.fire 7 9999)) ∧
      Served req (.setLine req ((19 : LineIx).val + 1) (.input 255 2 5 8 9999)) up) ∧
    (lineConfigOf (.output 0 1 0 1 2) = some (.output (.cue 0 .forceOn) true) ∧
      Served req (.setLine req ((0 : LineIx).val + 1) (.output 0 1 0 1 2)) up) ∧
    lineConfigOf (.output 1 8 3 0 9) = some (.output (.followAlarm 7 .stream) false) :=
  ⟨⟨by decide, served _ _ rfl⟩, ⟨by decide, served _ _ rfl⟩, by decide⟩

theorem witness_DriveLineOperates :
    Served req (.driveLine req 5 3 10) pulsed ∧ Served req (.driveLine req 5 3 5000) pulsed ∧
      Served req (.driveLine req 5 3 5001) pulsed ∧ Served req (.driveLine req 21 0 0) pulsed ∧
      Served req (.driveLine req 1 0 0) pulsed ∧ (pulsed.line 4).cueScreen.isSome = true ∧
      (pulsed.line 0).cueScreen.isSome = false :=
  ⟨served _ _ rfl, served _ _ rfl, served _ _ rfl, served _ _ rfl, served _ _ rfl, by decide +kernel, by decide +kernel⟩

theorem witness_PinChangeAndPulseExpiry :
    ((button.line 11).config = .input 20 .falling (.start 3) ∧ (button.line 11).raw ≠ false) ∧
    (button.line 11).raw = true ∧
    (let s := { after (.driveLine req 5 3 500) pulsed with time := 500 };
      (s.line 4).config = .output (.cue 1 .forceOff) true ∧ (s.line 4).pulse = some 500 ∧
        (s.time - (500 : PartTime)).toNat < 2 ^ 31) := by decide +kernel

/-- A falling edge that is recognised, and a rising one that is not. -/
theorem witness_EdgeReachesItsScreens :
    let s := { after (.pinChange 11 false) button with time := 20 }
    let u := { after (.pinChange 11 true) (after (.debounceExpiry 11) s) with time := 40 }
    ((s.line 11).config = .input 20 .falling (.start 3) ∧ (s.line 11).debounceTimer = some 20 ∧
      (s.time - (20 : PartTime)).toNat < 2 ^ 31 ∧ (s.line 11).raw ≠ (s.line 11).level ∧ (s.line 11).raw = false) ∧
    ((u.line 11).debounceTimer = some 40 ∧ (u.line 11).raw = true ∧ (u.line 11).level = false) := by decide +kernel

theorem witness_ClockCommandByTable :
    Served req (.clock req ((0 : ScreenIx).val + 1) 0 0) up ∧ Served req (.clock req ((7 : ScreenIx).val + 1) 1 0) up ∧
      Served req (.clock req ((0 : ScreenIx).val + 1) 3 4294967294) up ∧
      Served req (.clock req ((0 : ScreenIx).val + 1) 3 4294967295) up ∧
      Served req (.clock req ((0 : ScreenIx).val + 1) 4 0) up :=
  ⟨served _ _ rfl, served _ _ rfl, served _ _ rfl, served _ _ rfl, served _ _ rfl⟩

theorem witness_ClockSettings :
    Served req (.setClock req ((0 : ScreenIx).val + 1) (ClockMode.code .chase) 4294967294 (EndMode.code .loop) 2000 10000)
      (running 60 []) ∧
    Served req (.setClock req ((0 : ScreenIx).val + 1) (ClockMode.code .free) 50 (EndMode.code .once) 0 0) (running 60 []) ∧
    (lineOrNoneOf 0 = some none ∧ lineOrNoneOf 20 = some (some 19) ∧
      Served req (.setTrigger req ((0 : ScreenIx).val + 1) 2 20 (EdgeSelect.code .both) 4294967294) up ∧
      Served req (.setTrigger req ((0 : ScreenIx).val + 1) 0 0 (EdgeSelect.code .rising) 4294967295) up) ∧
    Served req (.readCapture req ((7 : ScreenIx).val + 1)) up :=
  ⟨served _ _ rfl, served _ _ rfl, ⟨by decide, by decide, served _ _ rfl, served _ _ rfl⟩, served _ _ rfl⟩

/-- Lists of one and four actions: all valid, one out of range, one whose target is not valid; none and five. -/
theorem witness_FirstBadActionIsNamed :
    (1 ≤ [RawAction.mark 1].length ∧ (up.checkActions 0 [.mark 1]).toOption = some [.mark 1]) ∧
    ([RawAction.mark 1, .mark 65536, .lineSet 1, .mark 2].length ≤ 4 ∧
      (up.checkActions 0 [.mark 1, .mark 65536, .lineSet 1, .mark 2]).toOption = none) ∧
    (up.checkActions 0 [.preset 32, .mark 2]).toOption = none ∧
    ([] : List RawAction).length = 0 ∧
    4 < [RawAction.mark 1, .mark 2, .mark 3, .mark 4, .mark 5].length := by decide +kernel

/-- The ends of number and time, an entry that replaces another, and a full pool. -/
theorem witness_LoadCueSetsEntry :
    (conditionOf (.lineLevel 20 1) = some (some (.lineLevel 19 true)) ∧
      Served req (.loadCue req ((0 : ScreenIx).val + 1) 9999 4294967294 (.lineLevel 20 1) [.mark 1]) up) ∧
    (conditionOf .absent = some none ∧
      Served req (.loadCue req ((0 : ScreenIx).val + 1) 1 0 .absent [.mark 1]) (running 0 [cue 1 5 none []])) ∧
    (on 0 (fun c => { c with cues := List.replicate 1024 (cue 1 5 none []) })).cuesFree = 0 :=
  ⟨⟨by decide, served _ _ rfl⟩, ⟨by decide, served _ _ rfl⟩, by decide +kernel⟩

theorem witness_DropAndClearCues :
    Served req (.dropCue req ((0 : ScreenIx).val + 1) 1) (running 0 [cue 1 5 none []]) ∧
      Served req (.dropCue req ((0 : ScreenIx).val + 1) 9999) (running 0 [cue 1 5 none []]) ∧
      Served req (.clearCues req ((7 : ScreenIx).val + 1)) up := ⟨served _ _ rfl, served _ _ rfl, served _ _ rfl⟩

theorem witness_FireFillsImmediateSlot :
    Served req (.fire req ((0 : ScreenIx).val + 1) 1) (running 0 [cue 1 5 none []]) ∧
      Served req (.fire req ((0 : ScreenIx).val + 1) 9999) up ∧
      ((up.checkActions 7 [.mark 0]).toOption = some [.mark 0] ∧
        Served req (.fireActions req ((7 : ScreenIx).val + 1) [.mark 0]) up) ∧
      (up.checkActions 0 [.mark 1, .preset 33] = .error 2 ∧
        Served req (.fireActions req ((0 : ScreenIx).val + 1) [.mark 1, .preset 33]) up) ∧
      (up.checkActions 0 [] = .error 0 ∧ Served req (.fireActions req ((0 : ScreenIx).val + 1) []) up) ∧
      4 < [RawAction.mark 1, .mark 2, .mark 3, .mark 4, .mark 5].length :=
  ⟨served _ _ rfl, served _ _ rfl, ⟨by decide +kernel, served _ _ rfl⟩, ⟨by rfl, served _ _ rfl⟩,
    ⟨by rfl, served _ _ rfl⟩, by decide⟩

/-- A forward movement that passes one entry and fires another, a backward one, none, and a wrap. -/
theorem witness_MovementReachesCues :
    (([cue 1 10 none [], cue 2 300 none []].map CueEntry.number).Nodup ∧ 0 < 300 ∧ 10 + 250 ≤ 300 ∧ ¬ 300 + 250 ≤ 300) ∧
      ({ old := 5, new := 4, wrapped := false } : Movement).new < 5 ∧
      ({ old := 5, new := 5, wrapped := false } : Movement).new = 5 ∧
      ({ old := 9, new := 10, wrapped := true } : Movement).wrapped = true := by decide

/-- Only EVENT actions; a condition that holds and one that does not; an immediate slot that is empty, that holds actions, a
cue of the list, and a cue that is not there. -/
theorem witness_PassedCueDropsEventActions :
    let slot (x : Immediate) : State := (running 0 [cue 5 9 none []]).modScreen 0 (fun c => { c with immediate := x })
    (∀ a ∈ (cue 21 400300 none [.linePulse 3 500, .mark 7, .clock .stop, .lineToggle 3]).actions, a.isState = false) ∧
    ((cue 1 5 (some (.playing .b)) []).condition = some (.playing .b) ∧ (up.scr 0).intake.selection = .a) ∧
    (up.scr 0).immediate = .empty ∧
    ((slot (.actions [.mark 1] .request)).scr 0).immediate = .actions [.mark 1] .request ∧
    (((slot (.cue 5 (.contact 2))).scr 0).immediate = .cue 5 (.contact 2) ∧
      ((slot (.cue 5 (.contact 2))).scr 0).cues.find? (fun e => e.number = 5) = some (cue 5 9 none [])) ∧
    (((slot (.cue 6 .request)).scr 0).immediate = .cue 6 .request ∧
      ∀ e ∈ ((slot (.cue 6 .request)).scr 0).cues, e.number ≠ 6) := by decide +kernel

/-- The ends of the thresholds, dwells and reminders, and of the guard's fields; a guard that stays enabled. -/
theorem witness_AlarmAndGuardSettings :
    Served req (.setAlarm req ((0 : ScreenIx).val + 1) (AlarmKind.code .overLevel) 1500 200 600000 0 (boolCode true) 600 15)
      up ∧
    Served req (.setAlarm req ((0 : ScreenIx).val + 1) (AlarmKind.code .clip) 1 0 0 600000 (boolCode false) 1 0) up ∧
    Served req (.setAlarm req ((7 : ScreenIx).val + 1) (AlarmKind.code .stream) 0 0 1 1 (boolCode false) 1 0) up ∧
    Served req (.setGuard req ((0 : ScreenIx).val + 1) (boolCode true) 12 91 (-60) 60000) (closing .idle 0 0 guardOn) ∧
    Served req (.setGuard req ((0 : ScreenIx).val + 1) (boolCode false) 1 5000 0 991) up :=
  ⟨served _ _ rfl, served _ _ rfl, served _ _ rfl, served _ _ rfl, served _ _ rfl⟩

theorem witness_AcknowledgeByState :
    alarmIdOf .clip 7 = some (.clip 7) ∧ alarmIdOf .stream 255 = some .stream ∧
      Served req (.ackAlarm req ((6 : ScreenIx).val + 1) (AlarmKind.code .clip) 7) up ∧
      Served req (.ackAlarm req ((0 : ScreenIx).val + 1) (AlarmKind.code .overLevel) 0) (closing .raised 0 0 guardOn) ∧
      (¬ (Instr.ackAlarm req 8 2 8).inRange ∧ Served req (.ackAlarm req 8 2 8) up) :=
  ⟨rfl, rfl, served _ _ rfl, served _ _ rfl, fun h => absurd (h.2.2 (Or.inr rfl)) (by decide), served _ _ rfl⟩

/-- An instance one close before a reminder. -/
def reminding : State :=
  (closing .raised 0 (-200) guardOn).modAlarms 0 (fun a =>
    { a with overLevel := { a.overLevel with remindCount := 5999 },
             overSettings := { a.overSettings with remindLimit := 15 } })

theorem witness_AlarmEventsAtTheirClose :
    Alarm.reset.state = .idle ∧ 1 ≤ overSettings.raiseDwell / 10 ∧
    (closing .pending 199 (-200) guardOn).alarmPost 0 .overLevel = some .raised ∧
    (closing .raised 0 1050 guardOn).alarmPost 0 .overLevel = some .cleared ∧
    ((closing .raised 0 1050 guardOn).modAlarms 0 (fun a => { a with overSettings := { a.overSettings with latch := true } })
      ).alarmPost 0 .overLevel = some .latched ∧
    reminding.alarmPost 0 .overLevel = some (.remind 1) ∧ 9 ≤ (reminding.scr 0).meters.boundaryCount := by decide +kernel

theorem witness_GuardStepsAtTheirClose :
    ((closing .raised 0 (-200) guardOn).scr 0).closeDue = true ∧
      ((closing .raised 0 (-200) guardOn).evaluated 0).guardReduces = true ∧
      ((closing .idle 0 1050 { guardOn with value := -18, releaseCount := 999 }).evaluated 0).guardReleases = true ∧
      9 ≤ ((closing .raised 0 (-200) guardOn).scr 0).meters.boundaryCount := by
  decide +kernel

/-- An ID bound nowhere, one bound elsewhere, and a slot in use. -/
theorem witness_BindingRequests :
    (Served req (.bind req ((1 : ScreenIx).val + 1) (Letter.code .b) 5) wrapping ∧ (wrapping.slot 1 .b).state = .empty ∧
      ∀ j m, (wrapping.slot j m).streamId ≠ some 5) ∧
    (∃ j m, (wrapping.slot j m).streamId = some 2) ∧ (wrapping.slot 1 .a).state ≠ .empty ∧
    Served req (.unbind req ((1 : ScreenIx).val + 1) (Letter.code .a)) wrapping ∧
    Served req (.setSource req ((7 : ScreenIx).val + 1) (Letter.code .b)) up ∧ Served req (.listSeen req 2) up := by
  refine ⟨⟨served _ _ rfl, by decide +kernel, fun j m => ?_⟩, ⟨1, .a, by decide +kernel⟩, by decide +kernel,
    served _ _ rfl, served _ _ rfl, served _ _ rfl⟩
  have h : ∀ j, (wrapping.slot j .a).streamId ≠ some 5 ∧ (wrapping.slot j .b).streamId ≠ some 5 := by decide +kernel
  cases m with
  | a => exact (h j).1
  | b => exact (h j).2

/-- The ends of the watermarks, for each state that a slot may be in. -/
theorem witness_SetIntakeAgrees :
    Served req (.setIntake req ((0 : ScreenIx).val + 1) 2 1 3 (UnderrunPolicy.code .failover) (boolCode true))
      (on 0 (slotA .starved 10 [10, 11, 12])) ∧
    Served req (.setIntake req ((0 : ScreenIx).val + 1) 32 31 63 (UnderrunPolicy.code .conceal) (boolCode false))
      (on 0 (slotA .ready 10 [10, 11, 12])) := ⟨served _ _ rfl, served _ _ rfl⟩

theorem witness_PacketAtTheProgramPort :
    (((0xFFFFFFFFFFFF : Mac) = Config.stationAddress ∨ (0xFFFFFFFFFFFF : Mac) = 0xFFFFFFFFFFFF) ∧
      (0x88B5 : BitVec 16) = 0x88B5) ∧
    ¬ (((0xFFFFFFFFFFFF : Mac) = Config.stationAddress ∨ (0xFFFFFFFFFFFF : Mac) = 0xFFFFFFFFFFFF) ∧
      (0x0800 : BitVec 16) = 0x88B5) ∧
    packetOf [] = none ∧ (packetOf monoPacket).map Prod.fst = some 7 ∧
    (∀ j, (up.slot j .a).streamId ≠ some 7 ∧ (up.slot j .b).streamId ≠ some 7) ∧
    (let s := after (.bind req 1 0 7) up;
      (s.slot 0 .a).state = .waiting ∧ ∀ j, ((s.slot j .a).streamId = some 7 → j = 0) ∧ (s.slot j .b).streamId ≠ some 7) :=
  ⟨⟨Or.inr rfl, rfl⟩, fun h => absurd h.2 (by decide), rfl, by decide +kernel, by decide +kernel, by decide +kernel⟩

/-- The ends of the window and of the distances beyond it, and a slot of each state that reaches the start level. -/
theorem witness_PacketPlacedByDistance :
    (wrapping.slot 1 .a).expected = some 65530 ∧ (wrapping.slot 1 .a).state = .playing ∧
      ((57 : Seq) - 65530).toNat = 63 ∧ (∀ y ∈ (wrapping.slot 1 .a).buffer, y.seq ≠ 57) ∧
      (∃ y ∈ (wrapping.slot 1 .a).buffer, y.seq = 65533) ∧ ((58 : Seq) - 65530).toNat = 64 ∧
      ((32761 : Seq) - 65530).toNat = 32767 ∧ ((32762 : Seq) - 65530).toNat = 32768 ∧
      (∀ state ∈ ([.filling, .ready, .playing, .starved] : List SlotState),
        let s := (on 0 (slotA state 9 [10])).modIntake 0 (fun k => { k with start := 2, high := 2, pacing := true })
        (s.slot 0 .a).state = state ∧ (s.slot 0 .a).expected = some 9 ∧ (s.slot 0 .a).buffer.length + 1 = 2 ∧
          (∀ y ∈ (s.slot 0 .a).buffer, y.seq ≠ 9)) := by decide +kernel

theorem witness_LostAfterTimeout :
    let s := { on 0 (slotA .ready 10 [10]) with time := 250 }
    ((s.slot 0 .a).state = .ready ∧ (s.slot 0 .a).lastAccepted = some 0 ∧ 250 ≤ (s.time - (0 : PartTime)).toNat) ∧
      (({ s with time := 249 } : State).time - (0 : PartTime)).toNat < 250 ∧ (up.slot 0 .a).state = .empty := by
  decide +kernel

theorem witness_LayoutAndFormatRequests :
    ((Instr.setLayout req ((4 : ScreenIx).val + 1) 0xFF (Topology.code .sideRear) 40).inRange ∧
      Served req (.setLayout req ((4 : ScreenIx).val + 1) 0xFF (Topology.code .sideRear) 40) (pooled 580)) ∧
    (Instr.setLayout req ((4 : ScreenIx).val + 1) 5 (Topology.code .side) 0).inRange ∧
    Served req (.setFormat req ((0 : ScreenIx).val + 1) 0xFE) up := by
  refine ⟨⟨?_, served _ _ rfl⟩, ?_, served _ _ rfl⟩ <;> (unfold Instr.inRange isScreen; decide)

/-- A screen that decodes MATRIX, with the longest delay. -/
def matrixed : State :=
  on 0 (fun c => { c with decoder := { c.decoder with mask := 0xFF, forced := some .matrix, inForce := some .matrix,
                                                      delay := 40 } })

/-- A MATRIX screen with the longest delay, one not in MATRIX yet, every format forced in turn, and no format at all. -/
theorem witness_MatrixBlockSteers :
    (matrixed.scr 0).decoder.forced = some .matrix ∧ (matrixed.scr 0).decoder.inForce = some .matrix ∧
      (matrixed.scr 0).decoder.delay ≤ 40 ∧ (matrixed.scr 0).decoder.mask.getLsbD 7 = true ∧
      (up.scr 0).decoder.forced = none ∧ (up.scr 0).decoder.inForce ≠ some .matrix ∧
      ({ partialBlock with format := some .matrix } : Taken).format = some .matrix ∧
      -120 < dominance 1 1 ∧ dominance 1 1 < 120 ∧
      (∀ f ∈ ([.mono, .stereo, .matrix, .discrete6, .discrete8] : List Format),
        ((after (.setFormat req 1 f.code) up).scr 0).decoder.forced = some f) ∧
      (up.scr 0).decoder.mask.getLsbD 1 = false ∧ (up.scr 0).decoder.inForce = none ∧
      (up.scr 0).intake.concealed.format = none := by decide +kernel

theorem witness_GainRequests :
    Served req (.setFader req ((0 : ScreenIx).val + 1) 100 60000) up ∧
      Served req (.setFader req ((0 : ScreenIx).val + 1) 0 0) up ∧ Served req (.setLimit req ((7 : ScreenIx).val + 1) 0) up ∧
      Served req (.setTrim req ((0 : ScreenIx).val + 1) 0xFF (-73)) up ∧
      Served req (.setMute req ((0 : ScreenIx).val + 1) 0x80 (boolCode true)) up :=
  ⟨served _ _ rfl, served _ _ rfl, served _ _ rfl, served _ _ rfl, served _ _ rfl⟩

theorem witness_TermsReachTheirTargets :
    0 < 1 ∧ ((30 : Int) - 0).natAbs ≤ 30 * 1 ∧ 0 < 4000 ∧ rampRate 0 30 4000 = 1 := by decide

theorem witness_MultiplierIsNearest : (-480 : Int) < -479 ∧ (-479 : Int) ≤ 72 ∧ (72 : Int) ≤ 72 := by decide

/-- A bus that is silent for want of a layout, and one at a total of 0. -/
theorem witness_OutputSampleLaw :
    Decoder.reset.mask.getLsbD 0 = false ∧ (0xFF : Byte).getLsbD 0 = true ∧
      totalGain (rawTotal Gain.reset 0 0 0 0) = 0 ∧ Gain.reset.fader.current ≠ -480 ∧ Gain.reset.switchTerm.current ≠ -480 ∧
      Gain.reset.mutes[(0 : Fin 8)].current ≠ -480 := by decide +kernel

/-- A sound band and the two ends of an unsound one; a slot in use, a slot not in use, an EMPTY slot. -/
theorem witness_PresetLibraryRequests :
    ((Instr.loadPreset req ((31 : PresetIx).val + 1) (boolCode false) 0x80 [{ offset := -72, bands := [] }]).inRange ∧
      Served req (.loadPreset req ((31 : PresetIx).val + 1) (boolCode false) 0x80 [{ offset := -72, bands := [] }]) up) ∧
    (up.library[(31 : PresetIx)] = none ∧ ((pooled 0).scr 4).equaliser.active = some 6) ∧
    ((4194303 : Int).natAbs < 4194304 ∧ ¬ ((4194304 : Int).natAbs < 4194304) ∧
      ¬ (((8388607 : Int).natAbs : Int) < 4194304 + 4194303)) ∧
    Served req (.dropPreset req ((6 : PresetIx).val + 1)) (pooled 0) := by
  refine ⟨⟨?_, served _ _ rfl⟩, by decide +kernel, by decide, served _ _ rfl⟩
  unfold Instr.inRange; decide

/-- The ends of R76's table: screen 5 selects NONE, its own preset, and another screen a preset that fits or does not. -/
theorem witness_SelectPresetByTable :
    Served req (.selectPreset req ((4 : ScreenIx).val + 1) 0) (pooled 580) ∧
      (Served req (.selectPreset req ((4 : ScreenIx).val + 1) ((6 : PresetIx).val + 1)) (pooled 580) ∧
        (pooled 580).library[(6 : PresetIx)] ≠ none ∧ ((pooled 580).scr 4).equaliser.switch = .idle) ∧
      ((pooled 580).scr 1).equaliser.switch ≠ .idle ∧ (pooled 580).library[(31 : PresetIx)] = none ∧
      Served req (.selectPreset req 9 0) up ∧ Served req (.selectPreset req 1 33) up :=
  ⟨served _ _ rfl, ⟨served _ _ rfl, by decide +kernel, by decide +kernel⟩, by decide +kernel, by decide +kernel,
    served _ _ rfl, served _ _ rfl⟩

/-- The ends of the crossfade count, of coefficients and of samples, and chains of no band and of the 16 bands one bus may
hold. -/
theorem witness_BandIsDirectForm :
    0 ≤ 32 ∧ 32 ≤ 32 ∧ ([] : List BandHistory).length = ([] : List Band).length ∧
      (∀ (c : Band) (h : BandHistory), (List.replicate 16 h).length = (List.replicate 16 c).length) ∧
      ∀ v ∈ [(-8388608 : Int), 8388607], -8388608 ≤ v ∧ v ≤ 8388607 :=
  ⟨by decide, by decide, rfl, fun _ _ => rfl, by decide⟩

theorem witness_SwitchEventsAtTheirBoundary :
    (let s := switching .crossfade none 31 0 0;
      (s.scr 0).cues = [] ∧ (s.scr 0).immediate = .empty ∧ (s.scr 0).equaliser.switch = .crossfade ∧
        31 ≤ (s.scr 0).equaliser.count ∧ (s.scr 0).equaliser.incoming = some none ∧ (s.scr 0).equaliser.waiting = none) ∧
    (let s := switching .cut (some .fadeOut) 0 (-420) (-480);
      (s.scr 0).equaliser.phase = some .fadeOut ∧ (s.scr 0).gain.switchTerm = { current := -420, target := -480 } ∧
        (s.scr 0).equaliser.incoming = some none) ∧
    (let s := switching .cut (some .fadeIn) 0 (-60) 0;
      (s.scr 0).equaliser.phase = some .fadeIn ∧ (s.scr 0).gain.switchTerm = { current := -60, target := 0 }) ∧
    (let waiting (s : State) : State := s.modEqualiser 0 (fun e => { e with waiting := some (some 6) });
      let fading := waiting (switching .crossfade none 31 0 0);
      let cutting := waiting (switching .cut (some .fadeIn) 0 (-60) 0);
      ((fading.scr 0).cues = [] ∧ (fading.scr 0).immediate = .empty ∧ (fading.scr 0).equaliser.waiting = some (some 6) ∧
        (fading.scr 0).equaliser.switch = .crossfade ∧ (fading.scr 0).equaliser.incoming = some none) ∧
      ((cutting.scr 0).cues = [] ∧ (cutting.scr 0).immediate = .empty ∧
        (cutting.scr 0).equaliser.waiting = some (some 6) ∧ (cutting.scr 0).equaliser.switch = .cut ∧
        (cutting.scr 0).equaliser.active = none)) := by
  decide +kernel

theorem witness_LevelIsNearest :
    7 * 480 * 1 * 2 ^ 46 ≤ 7 * 480 * 1 * 2 ^ 46 ∧ 0 ≤ 7 * 480 * 0 * 2 ^ 46 ∧
      -1200 < levelOf (7 * 480 * 1 * 2 ^ 46) 1 := by decide +kernel

theorem witness_MeterRequestAndClose :
    Served req (.setMeter req ((0 : ScreenIx).val + 1) 10 1401) up ∧
      Served req (.setMeter req ((0 : ScreenIx).val + 1) 6000 599) up ∧
      9 ≤ ((closing .idle 0 0 guardOn).scr 0).meters.boundaryCount ∧ (up.scr 0).meters.boundaryCount < 9 :=
  ⟨served _ _ rfl, served _ _ rfl, by decide +kernel, by decide +kernel⟩

/-- The block expected, a gap, an empty slot without and with a backup; a staged selection that leaves an EMPTY slot, a PLAYING
one below the start level and one above it; a READY slot that is named; a STARVED one without and with a backup; a slot
that plays nothing before any block was taken; and a gap before any was. -/
theorem witness_TakeFromPlayingSlot :
    let s := on 0 (slotA .playing 10 [10, 11])
    let gap := (on 0 (slotA .playing 9 [10])).modIntake 0 (fun k => { k with lastTaken := some (block 8) })
    ((s.scr 0).intake.selection = .a ∧ (s.scr 0).intake.staged = .a ∧ (s.slot 0 .a).state = .playing ∧
      (s.slot 0 .a).expected = some 10 ∧ (s.slot 0 .a).buffer = block 10 :: [block 11]) ∧
    ((gap.slot 0 .a).buffer = block 10 :: [] ∧ (block 10).seq ≠ 9 ∧ (gap.scr 0).intake.lastTaken = some (block 8)) ∧
    ((failing.slot 2 .a).buffer = [] ∧ (failing.scr 2).intake.policy = .failover ∧
      (failing.scr 2).intake.slotB.state = .ready ∧ (failing.scr 2).intake.slotB.buffer ≠ []) ∧
    (up.scr 0).intake.policy = .conceal ∧
    (let staged (s : State) : State := s.modIntake 0 (fun k => { k with staged := .b });
      (((staged up).scr 0).intake.staged ≠ ((staged up).scr 0).intake.selection ∧ ((staged up).slot 0 .a).state ≠ .playing) ∧
      (((staged s).slot 0 .a).state = .playing ∧ ((staged s).slot 0 .a).buffer.length < ((staged s).scr 0).intake.start) ∧
      (((staged s).modIntake 0 (fun k => { k with start := 2 })).scr 0).intake.start ≤ ((staged s).slot 0 .a).buffer.length) ∧
    ((on 0 (slotA .ready 10 [10])).slot 0 .a).state = .ready ∧
    (((on 0 (slotA .starved 10 [10])).slot 0 .a).state = .starved ∧
      ((on 0 (slotA .starved 10 [10])).slot 0 .a).expected = some 10) ∧
    (let t := failing.modSlot 2 .a (fun x => { x with state := .starved });
      (t.slot 2 .a).state = .starved ∧ (t.scr 2).intake.selection = .a ∧ (t.scr 2).intake.slotB.state = .ready ∧
        (t.scr 2).intake.slotB.buffer = block 5020 :: (t.scr 2).intake.slotB.buffer.tail) ∧
    ((up.slot 0 .a).state = .empty ∧ (up.scr 0).intake.staged = .a ∧ (up.scr 0).intake.lastTaken = none) ∧
    (let t := on 0 (slotA .playing 10 []); (t.slot 0 .a).state = .playing ∧ (t.slot 0 .a).buffer = []) ∧
    (let t := on 0 (slotA .playing 9 [10]);
      (t.scr 0).intake.staged = (t.scr 0).intake.selection ∧ (t.slot 0 .a).state = .playing ∧
        (t.slot 0 .a).expected = some 9 ∧ (t.slot 0 .a).buffer = block 10 :: [] ∧ (block 10).seq ≠ 9 ∧
        (t.scr 0).intake.lastTaken = none) := by
  decide +kernel

/-- Clocks at and one short of their ends, with and without a length, and a chasing one at its flywheel limit, given a position and
given none; a HELD one. -/
theorem witness_BlockBoundaryWork :
    let free (length position : Nat) : State :=
      on 0 (fun c => { c with clock := { c.clock with state := .running, length := length, position := position } })
    (up.scr 0).clock.state = .stopped ∧
    (((free 5 3).scr 0).cues = [] ∧ ((free 5 3).scr 0).immediate = .empty ∧ ((free 5 3).scr 0).clock.position + 1 < 5) ∧
    (((free 5 4).scr 0).clock.position + 1 = 5 ∧ ((free 5 5).scr 0).clock.position = 5 ∧
      ((free 0 4294967293).scr 0).clock.position + 1 = 4294967294) ∧
    ((free 5 4).scr 0).intake.staged = ((free 5 4).scr 0).intake.selection ∧
    ((free 5 4).slot 0 ((free 5 4).scr 0).intake.selection).state = .empty ∧
    (let chasing (state : ClockState) (position : Option Nat) : State :=
        on 0 (fun c =>
          let c := slotA .playing 10 [] c
          { c with
            clock := { c.clock with state := state, mode := .chase },
            intake := { c.intake with slotA := { c.intake.slotA with buffer := [{ block 10 with position := position }] } } });
      ((((chasing .running (some 7)).take 0).2.real = true ∧ ((chasing .running (some 7)).take 0).2.position = some 7) ∧
        ((chasing .running (some 7)).scr 0).clock.mode = .chase) ∧
      (((chasing .running none).take 0).2.position = none ∧
        ((chasing .running none).scr 0).clock.flywheelCount < ((chasing .running none).scr 0).clock.flywheelLimit) ∧
      (((chasing .held none).scr 0).clock.state = .held ∧ ((chasing .held none).take 0).2.position = none)) := by
  decide +kernel

theorem witness_ScreensAreSeparate :
    exec (.setSource req 1 1) up = .next (after (.setSource req 1 1) up) ∧ ¬ (Instr.setSource req 1 1).reachesScreens ∧
      (Instr.setSource req 1 1).onlyScreen ≠ some 7 := ⟨rfl, fun h => h, by decide⟩

theorem witness_QueueAndPortKept : QueueInv up ∧ PortInv up ∧ step up = .next up.tick :=
  ⟨by unfold QueueInv; decide, by unfold PortInv; decide, rfl⟩

theorem witness_IntakeKept :
    SeenInv up ∧ (∀ i, (up.scr i).intake.Inv) ∧ step up = .next up.tick ∧ BoundOnce wrapping ∧
      (∀ i, (wrapping.slot i .a).BufferInv ∧ (wrapping.slot i .b).BufferInv) ∧ step wrapping = .next wrapping.tick := by
  refine ⟨by unfold SeenInv; decide, fun i l => ?_, rfl, ?_, ?_, rfl⟩
  case refine_2 =>
    have h : ∀ i, ((wrapping.slot i .a).streamId ≠ none → i = 1) ∧ (wrapping.slot i .b).streamId = none := by decide +kernel
    intro i l j m hi hij
    have hj : (wrapping.slot j m).streamId ≠ none := fun e => hi (hij.trans e)
    cases l with
    | b => exact absurd (h i).2 hi
    | a =>
      cases m with
      | b => exact absurd (h j).2 hj
      | a => exact ⟨((h i).1 hi).trans ((h j).1 hj).symm, rfl⟩
  case refine_3 =>
    have others : ∀ i, (i ≠ 1 → wrapping.slot i .a = Slot.reset) ∧ wrapping.slot i .b = Slot.reset := by decide +kernel
    have empty : Slot.reset.BufferInv := by unfold Slot.BufferInv Slot.reset; decide
    have full : wrapping.slot 1 .a = (slotA .playing 65530 [65530, 65531, 65532, 65533] Screen.reset).intake.slotA := by
      decide +kernel
    intro i
    refine ⟨?_, (others i).2 ▸ empty⟩
    by_cases e : i = 1
    · rw [e, full]
      unfold Slot.BufferInv slotA
      decide
    · exact (others i).1 e ▸ empty
  have h : ∀ i, (up.slot i .a).state = .empty ∧ (up.slot i .b).state = .empty ∧ (up.slot i .a).holding = false ∧
    (up.slot i .b).holding = false := by decide +kernel
  cases l with
  | a => exact ⟨fun e => (nomatch (h i).1.symm.trans e), fun e => (nomatch (h i).2.2.1.symm.trans e)⟩
  | b => exact ⟨fun e => (nomatch (h i).2.1.symm.trans e), fun e => (nomatch (h i).2.2.2.symm.trans e)⟩

theorem witness_ScreenBlocksKept :
    (∀ i, (up.scr i).decoder.Inv ∧ (up.scr i).gain.Inv ∧ (up.scr i).meters.Inv ∧ (up.scr i).guard.Inv) ∧
      step up = .next up.tick := by
  refine ⟨?_, rfl⟩
  unfold Decoder.Inv Gain.Inv Meters.Inv GuardBlock.Inv
  decide +kernel

theorem witness_ClocksKept : (∀ i, (up.scr i).clock.Inv) ∧ step up = .next up.tick := by
  refine ⟨?_, rfl⟩
  unfold Clock.Inv
  decide +kernel

theorem witness_CuesKept : CuesInv (running 0 [cue 1 5 none [], cue 2 5 none []]) := by
  unfold CuesInv
  decide +kernel

theorem witness_BandsKept : BandInv (pooled 590) := by
  unfold BandInv
  decide +kernel

theorem witness_LinesKept : ∀ l, (up.line l).Inv := by
  have h : ∀ l, up.line l = Line.reset true := by decide +kernel
  intro l
  rw [h l]
  exact ⟨rfl, ⟨fun e => (nomatch e), fun e => absurd rfl e⟩⟩

end Sys2Proof.Tests
end

section
/-! The gain stage (section 3.4): what the multiplier is, what one bus's block becomes, and what a boundary changes. -/

namespace Sys2Proof.Machine

/-! ### The multiplier (R59) -/

/-- The two branches of the comparison are one inequality: at most one of the two powers of ten is not 1. -/
theorem powTenLe_iff {e : Int} {num den : Nat} :
    powTenLe e num den = true ↔ den * 10 ^ e.toNat ≤ num * 10 ^ (-e).toNat := by
  unfold powTenLe
  split
  case isTrue h => simp [Int.toNat_of_nonpos (show -e ≤ 0 by omega), Nat.mul_comm]
  case isFalse h => simp [Int.toNat_of_nonpos (show e ≤ 0 by omega)]

/-- The half step below the whole number `g` is not above the exact value of R59, 2^20 × 10^(t/120). -/
def HalfStepBelow (t : Int) (g : Nat) : Prop :=
  (2 * g - 1) ^ 120 * 10 ^ (-t).toNat ≤ (2 ^ 21) ^ 120 * 10 ^ t.toNat

/-- The property that the multiplier's search tests. -/
theorem multiplier_test_iff {t : Int} {g : Nat} :
    powTenLe (-t) ((2 ^ 21) ^ 120) ((2 * g - 1) ^ 120) = true ↔ HalfStepBelow t g := by
  rw [powTenLe_iff, Int.neg_neg, HalfStepBelow]

theorem HalfStepBelow.zero {t : Int} : HalfStepBelow t 0 := by
  simp [HalfStepBelow]

theorem HalfStepBelow.anti {t : Int} {a b : Nat} (hab : a ≤ b) (h : HalfStepBelow t b) : HalfStepBelow t a :=
  Nat.le_trans (Nat.mul_le_mul_right _ (Nat.pow_le_pow_left (by omega) 120)) h

/-- At a total of at most 72 the exact value is below 2^23, for 10^72 is below (2^2)^120. -/
theorem not_halfStepBelow_top {t : Int} (ht : t ≤ 72) : ¬ HalfStepBelow t (2 ^ 23) := by
  rw [HalfStepBelow, Nat.not_le]
  have hten : 10 ^ t.toNat ≤ 10 ^ 72 := Nat.pow_le_pow_right (by decide) (by omega)
  have hone : 1 ≤ 10 ^ (-t).toNat := Nat.one_le_pow _ _ (by decide)
  calc (2 ^ 21) ^ 120 * 10 ^ t.toNat
      ≤ (2 ^ 21) ^ 120 * 10 ^ 72 := Nat.mul_le_mul_left _ hten
    _ < (2 * 2 ^ 23 - 1) ^ 120 := by decide
    _ ≤ (2 * 2 ^ 23 - 1) ^ 120 * 10 ^ (-t).toNat := Nat.le_mul_of_pos_right _ hone

/-- The multiplier's half step below is not above the exact value, and the next whole number's is: R59's rounding. -/
theorem multiplier_halfSteps {t : Int} (ht : t ≤ 72) :
    HalfStepBelow t (multiplier t) ∧ ¬ HalfStepBelow t (multiplier t + 1) := by
  have mono : ∀ a b, a ≤ b → powTenLe (-t) ((2 ^ 21) ^ 120) ((2 * b - 1) ^ 120) = true →
      powTenLe (-t) ((2 ^ 21) ^ 120) ((2 * a - 1) ^ 120) = true := fun a b hab hb =>
    multiplier_test_iff.mpr (HalfStepBelow.anti hab (multiplier_test_iff.mp hb))
  obtain ⟨hbelow, -, hlt, hgreatest⟩ :=
    greatest_spec mono 23 0 (multiplier_test_iff.mpr HalfStepBelow.zero)
  refine ⟨multiplier_test_iff.mp hbelow, fun hnext => ?_⟩
  rcases Nat.lt_or_ge (multiplier t + 1) (2 ^ 23) with hin | hout
  · exact absurd (hgreatest _ (by omega) (multiplier_test_iff.mpr hnext)) (Nat.not_succ_le_self _)
  · exact not_halfStepBelow_top ht (hnext.anti hout)

/-- Settles O42: the greatest whole number whose half step below is not above the exact value is the nearest one. -/
theorem multiplierIsNearest : Obligations.MultiplierIsNearest := by
  intro total _ htop
  obtain ⟨hbelow, habove⟩ := multiplier_halfSteps htop
  exact ⟨hbelow, Nat.not_le.mp habove⟩

/-- At 0 dB the half steps around the multiplier enclose 2^21, so it is 2^20 (R59). -/
theorem multiplier_zero : multiplier 0 = 2 ^ 20 := by
  obtain ⟨hbelow, habove⟩ := multiplier_halfSteps (t := 0) (by decide)
  simp only [HalfStepBelow, Int.neg_zero, Int.toNat_zero, Nat.pow_zero, Nat.mul_one, Nat.not_le] at hbelow habove
  have hle : 2 * multiplier 0 - 1 ≤ 2 ^ 21 := (Nat.pow_le_pow_iff_left (by decide)).mp hbelow
  have hlt : 2 ^ 21 < 2 * (multiplier 0 + 1) - 1 := (Nat.pow_lt_pow_iff_left (by decide)).mp habove
  omega

/-! ### One sample (R60) -/

/-- The rounded quotient of R60 as one floor division. -/
theorem scaled_eq {g : Nat} {x : Int} : scaled g x = (2 * (x * g) + 2 ^ 20) / 2 ^ 21 := by
  simp [scaled, roundDiv]

/-- A multiplier of 2^20 leaves a sample as it is. -/
theorem scaled_unity {x : Int} : scaled (2 ^ 20) x = x := by
  rw [scaled_eq]
  omega

theorem saturate_eq {v : Int} : saturate v = max (-8388608) (min 8388607 v) := rfl

theorem overflows_iff {v : Int} : overflows v = true ↔ v < -8388608 ∨ 8388607 < v := by
  rw [overflows, Bool.or_eq_true, decide_eq_true_eq, decide_eq_true_eq]
  rfl

/-! ### One bus (R57, R58, R61) -/

/-- The steering term by bus number: C has the centre's, the four surround buses the surround's. -/
theorem steeringTerm_eq {centre surround : Int} {b : Bus} :
    steeringTerm centre surround b = if b.val = 1 then centre else if 4 ≤ b.val then surround else 0 := by
  have hcentre : b = busC ↔ b.val = 1 := Fin.ext_iff
  have hsurround : b = busLS ∨ b = busRS ∨ b = busLRS ∨ b = busRRS ↔ 4 ≤ b.val := by
    revert b
    decide
  simp only [steeringTerm, hcentre, hsurround]

theorem silentBus_iff {g : Gain} {d : Decoder} {total : Int} {b : Bus} :
    silentBus g d total b = true ↔
      d.mask.getLsbD b.val = false ∨ total = -480 ∨ g.fader.current = -480 ∨ g.mutes[b].current = -480 ∨
        g.switchTerm.current = -480 := by
  simp [silentBus, Decoder.present, or_assoc]

/-- The total gain that a bus has at a boundary (R57). -/
def busTotal (g : Gain) (guardValue centre surround : Int) (e : Equalised) (b : Bus) : Int :=
  totalGain (rawTotal g guardValue e.offsets[b] (steeringTerm centre surround b) b)

theorem busTotal_eq {g : Gain} {guardValue centre surround : Int} {e : Equalised} {b : Bus} :
    busTotal g guardValue centre surround e b =
      max (-480) (min 72
        (g.fader.current + g.trims[b] + g.offsets[b].current + e.offsets[b] + guardValue +
          (if b.val = 1 then centre else if 4 ≤ b.val then surround else 0) + g.mutes[b].current +
          g.switchTerm.current)) := by
  rw [busTotal, steeringTerm_eq]
  rfl

section
variable {g : Gain} {d : Decoder} {guardValue centre surround : Int} {e : Equalised} {b : Bus}

theorem gainBus_of_silent (h : silentBus g d (busTotal g guardValue centre surround e b) b = true) :
    gainBus g d guardValue centre surround e b = (List.replicate 48 0, false) :=
  if_pos h

theorem gainBus_of_not_silent (h : ¬ silentBus g d (busTotal g guardValue centre surround e b) b = true) :
    gainBus g d guardValue centre surround e b =
      ((e.out[b].map (scaled (multiplier (busTotal g guardValue centre surround e b)))).map saturate,
        e.clips[b] ||
          (e.out[b].map (scaled (multiplier (busTotal g guardValue centre surround e b)))).any overflows) :=
  if_neg h

/-- The clip flag of a bus that is not silent (R61). -/
theorem gainBus_clip_iff (h : ¬ silentBus g d (busTotal g guardValue centre surround e b) b = true) :
    (gainBus g d guardValue centre surround e b).2 = true ↔
      e.clips[b] = true ∨
        ∃ x ∈ e.out[b], overflows (scaled (multiplier (busTotal g guardValue centre surround e b)) x) = true := by
  rw [gainBus_of_not_silent h]
  simp

/-- At a total of 0 dB samples of the range pass unchanged and none saturates (R60). -/
theorem gainBus_at_zero (h : ¬ silentBus g d (busTotal g guardValue centre surround e b) b = true)
    (hzero : busTotal g guardValue centre surround e b = 0)
    (hrange : ∀ x ∈ e.out[b], -8388608 ≤ x ∧ x ≤ 8388607) :
    gainBus g d guardValue centre surround e b = (e.out[b], e.clips[b]) := by
  have hscaled : e.out[b].map (scaled (2 ^ 20)) = e.out[b] :=
    List.map_id'' (fun _ => scaled_unity) _
  have hsaturate : e.out[b].map saturate = e.out[b] :=
    (List.map_congr_left fun x hx => clampInt_of_mem (hrange x hx).1 (hrange x hx).2).trans (List.map_id _)
  have hfits : e.out[b].any overflows = false := by
    simp only [List.any_eq_false, overflows_iff]
    intro x hx
    have := hrange x hx
    omega
  rw [gainBus_of_not_silent h, hzero, multiplier_zero, hscaled, hsaturate, hfits, Bool.or_false]

end

/-! ### The stage at a boundary (R47, R51, R61, R62) -/

theorem State.modScreen_modScreen {s : State} {i : ScreenIx} {f h : Screen → Screen} :
    (s.modScreen i f).modScreen i h = s.modScreen i (fun c => h (f c)) := by
  simp only [State.modScreen, State.scr, Fin.getElem_fin, Vector.getElem_set_self, Vector.set_set]

/-- The boundary's work is one change of its screen, made of the blocks and the clip flags that the eight buses have once
the terms have stepped. -/
theorem State.gainStage_eq {s : State} {i : ScreenIx} {centre surround : Int} {e : Equalised} :
    s.gainStage i centre surround e =
      let c := s.scr i
      let bus (b : Fin 8) := gainBus c.gain.step c.decoder c.guard.value centre surround e b
      (s.modScreen i (fun c =>
        { c with
          gain := c.gain.step, lane := Vector.ofFn (fun b => (bus b).1),
          live :=
            if ∃ b : Fin 8, (bus b).2 = true then { c.live with clipBlocks := bumped c.live.clipBlocks }
            else c.live }),
        Vector.ofFn (fun b => (bus b).2)) := by
  have hscr : (s.modGain i Gain.step).scr i = { s.scr i with gain := (s.scr i).gain.step } := by simp
  simp only [State.gainStage, hscr, List.any_eq_true, List.mem_finRange, true_and, Fin.getElem_fin,
    Vector.getElem_ofFn, Fin.eta]
  split <;> simp only [State.modGain, State.setLane, State.modLive, State.modScreen_modScreen]

/-- Settles O43: the three cases of one bus by whether it is silent and whether its total is 0, then the boundary. -/
theorem outputSampleLaw : Obligations.OutputSampleLaw := by
  refine ⟨?_, fun s i centre surround e => State.gainStage_eq⟩
  intro g d guardValue centre surround e b
  simp only [← busTotal_eq, ← silentBus_iff, ← scaled_eq, ← saturate_eq, ← overflows_iff]
  refine ⟨gainBus_of_silent, fun h => ⟨?_, gainBus_clip_iff h⟩, gainBus_at_zero⟩
  rw [gainBus_of_not_silent h]

end Sys2Proof.Machine
end

section
/-! Room equalisation (section 4.4): one sample through a band, a block through a band and through a chain, the crossfade's
mix, and what a boundary changes. -/

namespace Sys2Proof.Machine

/-! ### One sample through a band (R74) -/

/-- The overflow mark says that saturation changed the value. -/
theorem overflows_eq_decide {v : Int} : overflows v = decide (saturate v ≠ v) := by
  rw [Bool.eq_iff_iff, overflows_iff, decide_eq_true_eq, saturate_eq]
  omega

/-- The rounded accumulation of R74 as one floor division. -/
theorem biquadSample_eq {c : Band} {h : BandHistory} {x : Int} :
    biquadSample c h x =
      let exact := (2 * biquadAcc c h x + 2 ^ 22) / 2 ^ 23
      (saturate exact, { x1 := x, x2 := h.x1, y1 := saturate exact, y2 := h.y1 }, decide (saturate exact ≠ exact)) := by
  have hround : roundDiv (biquadAcc c h x) (2 ^ 22) = (2 * biquadAcc c h x + 2 ^ 22) / 2 ^ 23 := by simp [roundDiv]
  simp only [biquadSample, hround, overflows_eq_decide]

/-- A coefficient and a sample are each at most 2^23 in magnitude, so a term of the accumulation is at most 2^46. -/
theorem natAbs_mul_le_of_sampleRange {a b : Int} (ha : -8388608 ≤ a ∧ a ≤ 8388607) (hb : -8388608 ≤ b ∧ b ≤ 8388607) :
    (a * b).natAbs ≤ 2 ^ 46 := by
  rw [Int.natAbs_mul]
  calc a.natAbs * b.natAbs
      ≤ 2 ^ 23 * 2 ^ 23 := Nat.mul_le_mul (by omega) (by omega)
    _ = 2 ^ 46 := by decide

/-- The band that is 1 (R74): b0 is 2^22, which the division of the accumulation undoes, and nothing else counts. -/
def Band.one : Band := { b0 := 4194304, b1 := 0, b2 := 0, a1 := 0, a2 := 0 }

theorem biquadSample_one {h : BandHistory} {x : Int} (hx : -8388608 ≤ x ∧ x ≤ 8388607) :
    biquadSample Band.one h x = (x, { x1 := x, x2 := h.x1, y1 := x, y2 := h.y1 }, false) := by
  have hexact : (2 * biquadAcc Band.one h x + 2 ^ 22) / 2 ^ 23 = x := by
    simp only [biquadAcc, Band.one]
    omega
  have hfits : saturate x = x := clampInt_of_mem hx.1 hx.2
  simp only [biquadSample_eq, hexact, hfits, ne_eq, not_true_eq_false, decide_false]

/-! ### A block through a band -/

@[simp] theorem runBand_nil {c : Band} {h : BandHistory} : runBand c h [] = ([], h, false) := rfl

theorem runBand_cons {c : Band} {h : BandHistory} {x : Int} {xs : List Int} :
    runBand c h (x :: xs) =
      let one := biquadSample c h x
      let rest := runBand c one.2.1 xs
      (one.1 :: rest.1, rest.2.1, one.2.2 || rest.2.2) := rfl

theorem runBand_singleton {c : Band} {h : BandHistory} {x : Int} :
    runBand c h [x] = ([(biquadSample c h x).1], (biquadSample c h x).2) := by
  simp [runBand_cons]

/-- A block cut in two: the second part starts from the history that the first leaves, and either part's mark counts. -/
theorem runBand_append {c : Band} {h : BandHistory} {xs ys : List Int} :
    runBand c h (xs ++ ys) =
      let one := runBand c h xs
      let two := runBand c one.2.1 ys
      (one.1 ++ two.1, two.2.1, one.2.2 || two.2.2) := by
  induction xs generalizing h with
  | nil => simp
  | cons x xs ih => simp [runBand_cons, ih, Bool.or_assoc]

@[simp] theorem length_runBand {c : Band} {h : BandHistory} {xs : List Int} : (runBand c h xs).1.length = xs.length := by
  induction xs generalizing h with
  | nil => rfl
  | cons x xs ih => simp [runBand_cons, ih]

/-- The band that is 1 passes every sample of the range and marks nothing. -/
theorem runBand_one {h : BandHistory} {xs : List Int} (hxs : ∀ x ∈ xs, -8388608 ≤ x ∧ x ≤ 8388607) :
    (runBand Band.one h xs).1 = xs ∧ (runBand Band.one h xs).2.2 = false := by
  induction xs generalizing h with
  | nil => exact ⟨rfl, rfl⟩
  | cons x xs ih =>
    obtain ⟨hx, hrest⟩ := List.forall_mem_cons.mp hxs
    simp [runBand_cons, biquadSample_one hx, ih hrest]

/-! ### A block through a chain (R73) -/

@[simp] theorem runChain_nil {hs : List BandHistory} {xs : List Int} : runChain [] hs xs = (xs, [], false) := rfl

theorem runChain_cons {c : Band} {cs : List Band} {h : BandHistory} {hs : List BandHistory} {xs : List Int} :
    runChain (c :: cs) (h :: hs) xs =
      let one := runBand c h xs
      let rest := runChain cs hs one.1
      (rest.1, one.2.1 :: rest.2.1, one.2.2 || rest.2.2) := rfl

/-- A chain cut in two: the second part runs on the output of the first. -/
theorem runChain_append {cs ds : List Band} {hs ks : List BandHistory} {xs : List Int} (hlen : hs.length = cs.length) :
    runChain (cs ++ ds) (hs ++ ks) xs =
      let one := runChain cs hs xs
      let two := runChain ds ks one.1
      (two.1, one.2.1 ++ two.2.1, one.2.2 || two.2.2) := by
  induction cs generalizing hs xs with
  | nil => simp [List.length_eq_zero_iff.mp hlen]
  | cons c cs ih =>
    obtain ⟨h, hs, rfl⟩ := List.exists_cons_of_length_eq_add_one hlen
    simp [runChain_cons, ih (Nat.succ.inj hlen), Bool.or_assoc]

/-! ### The crossfade's mix (R78) -/

@[simp] theorem mixAt_zero {old new : Int} : mixAt 0 old new = old := by
  simp [mixAt]

@[simp] theorem mixAt_end {old new : Int} : mixAt 32 old new = new := by
  simp [mixAt]

/-- The mix is a floored weighted mean, so it stays in every range that holds both values. -/
theorem mixAt_mem {k : Nat} {lo hi old new : Int} (hk : k ≤ 32) (hold : lo ≤ old ∧ old ≤ hi) (hnew : lo ≤ new ∧ new ≤ hi) :
    lo ≤ mixAt k old new ∧ mixAt k old new ≤ hi := by
  have hweight : 0 ≤ 32 - (k : Int) := by omega
  have hlo : (32 - (k : Int)) * lo + k * lo ≤ (32 - (k : Int)) * old + k * new :=
    Int.add_le_add (Int.mul_le_mul_of_nonneg_left hold.1 hweight) (Int.mul_le_mul_of_nonneg_left hnew.1 (by omega))
  have hhi : (32 - (k : Int)) * old + k * new ≤ (32 - (k : Int)) * hi + k * hi :=
    Int.add_le_add (Int.mul_le_mul_of_nonneg_left hold.2 hweight) (Int.mul_le_mul_of_nonneg_left hnew.2 (by omega))
  rw [← Int.add_mul, Int.sub_add_cancel] at hlo hhi
  unfold mixAt
  omega

/-! ### The equaliser at a boundary (R73, R78, R79) -/

@[simp] theorem State.contents_modEqualiser {s : State} {i : ScreenIx} {f : Equaliser → Equaliser} {t : Target} {b : Bus} :
    (s.modEqualiser i f).contents t b = s.contents t b := rfl

theorem State.modEqualiser_modEqualiser {s : State} {i : ScreenIx} {f h : Equaliser → Equaliser} :
    (s.modEqualiser i f).modEqualiser i h = s.modEqualiser i (fun e => h (f e)) :=
  State.modScreen_modScreen

/-- One bus in the rule's terms: present or absent, in a crossfade or not. -/
theorem State.equaliseBus_eq {s : State} {i : ScreenIx} {b : Bus} {xs : List Int} :
    s.equaliseBus i b xs =
      let e := (s.scr i).equaliser
      let present := (s.scr i).decoder.present b
      let old := runChain (s.contents e.active b).bands e.chains[b] xs
      let new := runChain (s.contents (e.incoming.getD none) b).bands e.inChains[b] xs
      (if present then if e.switch = .crossfade then List.zipWith (mixAt e.count) old.1 new.1 else old.1
        else zeroBlock,
      present && (old.2.2 || (decide (e.switch = .crossfade) && new.2.2)),
      if present then old.2.1 else e.chains[b],
      if present = true ∧ e.switch = .crossfade then new.2.1 else e.inChains[b]) := by
  unfold State.equaliseBus
  cases (s.scr i).decoder.present b
  case false => simp
  case true => cases hswitch : (s.scr i).equaliser.switch <;> simp [hswitch]

theorem State.offsetInForce_eq {s : State} {i : ScreenIx} {b : Bus} :
    s.offsetInForce i b =
      let e := (s.scr i).equaliser
      let old := (s.contents e.active b).offset
      if e.switch = .crossfade then mixAt e.count old (s.contents (e.incoming.getD none) b).offset else old := by
  unfold State.offsetInForce
  cases hswitch : (s.scr i).equaliser.switch <;> simp [hswitch, mixAt]

/-- The boundary's work is one change of its screen: the count advances in a crossfade, and the chains run on the eight
buses are kept with it. -/
theorem State.equalise_eq {s : State} {i : ScreenIx} {buses : Vector (List Int) 8} :
    s.equalise i buses =
      let e := (s.scr i).equaliser
      let fading := e.switch = .crossfade
      let k := if fading then e.count + 1 else e.count
      let present (b : Fin 8) := (s.scr i).decoder.present b
      let old (b : Fin 8) := runChain (s.contents e.active b).bands e.chains[b] buses[b]
      let new (b : Fin 8) := runChain (s.contents (e.incoming.getD none) b).bands e.inChains[b] buses[b]
      (s.modEqualiser i (fun e =>
        { e with
          count := k,
          chains := Vector.ofFn (fun b => if present b then (old b).2.1 else e.chains[b]),
          inChains := Vector.ofFn (fun b => if present b = true ∧ fading then (new b).2.1 else e.inChains[b]) }),
        { out := Vector.ofFn (fun b =>
            if present b then if fading then List.zipWith (mixAt k) (old b).1 (new b).1 else (old b).1 else zeroBlock),
          clips := Vector.ofFn (fun b => present b && ((old b).2.2 || (decide fading && (new b).2.2))),
          offsets := Vector.ofFn (fun b =>
            if fading then mixAt k (s.contents e.active b).offset (s.contents (e.incoming.getD none) b).offset
            else (s.contents e.active b).offset) }) := by
  simp only [State.equalise, State.equaliseBus_eq, State.offsetInForce_eq, State.modEqualiser_modEqualiser,
    State.contents_modEqualiser, State.scr_modEqualiser, if_true]
  by_cases hfading : (s.scr i).equaliser.switch = .crossfade
  · simp [hfading, State.modEqualiser, State.modScreen]
  · simp [hfading, State.modEqualiser, State.modScreen]

/-- Settles O46: one sample, the magnitudes of its terms, the band that is 1, a block cut in two, the mix, the chain, and
the boundary, each by its own rule. -/
theorem bandIsDirectForm : Obligations.BandIsDirectForm := by
  refine ⟨fun c h x => ⟨biquadSample_eq, ?_, runBand_nil⟩, ?_, fun h xs hxs => runBand_one hxs,
    fun c h xs ys => ⟨runBand_append, length_runBand⟩, ?_, ?_, fun s i buses => State.equalise_eq⟩
  · rw [runBand_singleton, biquadSample_eq]
    rfl
  · intro c h x fits hb0 hb1 hb2 ha1 ha2 hx hx1 hx2 hy1 hy2
    have hterm0 := natAbs_mul_le_of_sampleRange hb0 hx
    have hterm1 := natAbs_mul_le_of_sampleRange hb1 hx1
    have hterm2 := natAbs_mul_le_of_sampleRange hb2 hx2
    have hback1 := natAbs_mul_le_of_sampleRange ha1 hy1
    have hback2 := natAbs_mul_le_of_sampleRange ha2 hy2
    refine ⟨?_, by omega, by omega⟩
    simp only [List.forall_mem_cons]
    exact ⟨hterm0, hterm1, hterm2, hback1, hback2, fun _ hmem => nomatch hmem⟩
  · intro k old new hk
    exact ⟨mixAt_zero, mixAt_end,
      mixAt_mem hk ⟨by omega, by omega⟩ ⟨by omega, by omega⟩⟩
  · exact fun xs => ⟨runChain_nil, fun c h => by simp [runChain_cons], fun cs ds hs ks hlen => runChain_append hlen⟩

end Sys2Proof.Machine
end

section
/-! DRIVE_LINE on the contact lines (section 9.2): what serving a request gives, the fields it reads, and the two ends of
the request. -/

namespace Sys2Proof.Machine

/-! ### Service -/

/-- A served request of the right length gives its body's state and reply. -/
theorem State.serve_of_served {s : State} {c : Instr} {q : Req} {kind : Byte} {bad : List Byte}
    {body : State → State × List Byte} (h : Served q c s) :
    s.serve c q kind bad body =
      (body s.beginService).1.pushPath (replyFrame q.tag kind (body s.beginService).2) := by
  obtain ⟨hlength, hserving⟩ := h
  exact State.serve_ok (State.serves_iff.mpr hserving) hlength

theorem flag_eq {b : Bool} : flag b = [BitVec.ofNat 8 (boolCode b)] := by
  cases b <;> rfl

/-! ### The fields of DRIVE_LINE -/

theorem lineOf_of_mem {n : Nat} (h : 1 ≤ n ∧ n ≤ 20) : lineOf n = some ⟨n - 1, by omega⟩ := dif_pos h

theorem lineOf_eq_none {n : Nat} (h : ¬ (1 ≤ n ∧ n ≤ 20)) : lineOf n = none := dif_neg h

theorem lineOperationOf_pulse {width : Nat} (h : 10 ≤ width ∧ width ≤ 5000) :
    lineOperationOf 3 width = some (.pulse width) := if_pos h

/-- No operation is read from a code past PULSE, nor from a PULSE with a width outside its range (R173). -/
theorem lineOperationOf_eq_none {operation width : Nat} (hcode : 3 ≤ operation)
    (hpulse : ¬ (operation = 3 ∧ 10 ≤ width ∧ width ≤ 5000)) : lineOperationOf operation width = none := by
  match operation, hcode with
  | 3, _ => exact if_neg (fun hwidth => hpulse ⟨rfl, hwidth⟩)
  | _ + 4, _ => rfl

/-! ### The level of a CUE output -/

theorem State.lineLevel_of_cueScreen {s : State} {l : LineIx} (h : (s.line l).cueScreen.isSome = true) :
    s.lineLevel l = (s.line l).level := by
  unfold Line.cueScreen at h
  unfold State.lineLevel
  split at h
  next hconfig => simp [hconfig]
  next => cases h

/-- An operation does not reconfigure the line. -/
@[simp] theorem Line.operate_config {now : PartTime} {op : LineOperation} {x : Line} :
    (Line.operate now op x).config = x.config := by
  cases op <;> rfl

@[simp] theorem Line.operate_cueScreen {now : PartTime} {op : LineOperation} {x : Line} :
    (Line.operate now op x).cueScreen = x.cueScreen := by
  simp only [Line.cueScreen, Line.operate_config]

@[simp] theorem State.line_operateLine {s : State} {l : LineIx} {op : LineOperation} :
    (s.operateLine l op).line l = Line.operate s.time op (s.line l) := by
  simp [State.operateLine]

/-! ### DRIVE_LINE (R173) -/

/-- On a CUE output the rule replies the level and the pulse that the operation leaves. -/
theorem driveLineRule_of_cue {s : State} {line operation width : Nat} {l : LineIx} {op : LineOperation}
    (hline : lineOf line = some l) (hop : lineOperationOf operation width = some op)
    (hcue : (s.line l).cueScreen.isSome = true) :
    driveLineRule line operation width s =
      (s.operateLine l op,
        [0x00, BitVec.ofNat 8 (boolCode (Line.operate s.time op (s.line l)).level),
          BitVec.ofNat 8 (boolCode (Line.operate s.time op (s.line l)).pulse.isSome)]) := by
  have hlevel : (s.operateLine l op).lineLevel l = (Line.operate s.time op (s.line l)).level := by
    rw [State.lineLevel_of_cueScreen (by simpa using hcue), State.line_operateLine]
  simp [driveLineRule, hline, hop, hcue, hlevel, flag_eq, answer, Status.code]

theorem driveLineRule_of_not_cue {s : State} {line operation width : Nat} {l : LineIx} {op : LineOperation}
    (hline : lineOf line = some l) (hop : lineOperationOf operation width = some op)
    (hcue : ¬ (s.line l).cueScreen.isSome = true) : driveLineRule line operation width s = (s, [0x08]) := by
  simp [driveLineRule, hline, hop, hcue, refuse, answer, Status.code]

theorem driveLineRule_of_badArg {s : State} {line operation width : Nat}
    (h : lineOf line = none ∨ lineOperationOf operation width = none) :
    driveLineRule line operation width s = (s, [0x02]) := by
  unfold driveLineRule
  split
  next hline hop => rw [hline, hop] at h; simp at h
  next => rfl

section
variable {s : State} {q : Req} {line operation width : Nat}

theorem exec_driveLine (h : Served q (.driveLine q line operation width) s) :
    exec (.driveLine q line operation width) s =
      .next ((driveLineRule line operation width s.beginService).1.pushPath
        { tag := q.tag, kind := 0x5D, payload := (driveLineRule line operation width s.beginService).2 }) :=
  congrArg Host.Outcome.next (State.serve_of_served h)

/-- With fields that name a line and an operation, the line's function decides: the operation, or STATE. -/
theorem exec_driveLine_operation {l : LineIx} {op : LineOperation} (h : Served q (.driveLine q line operation width) s)
    (hline : lineOf line = some l) (hop : lineOperationOf operation width = some op) :
    exec (.driveLine q line operation width) s =
      .next
        (if (s.line l).cueScreen.isSome then
          (s.beginService.operateLine l op).pushPath
            { tag := q.tag, kind := 0x5D,
              payload :=
                [0x00, BitVec.ofNat 8 (boolCode (Line.operate s.time op (s.line l)).level),
                  BitVec.ofNat 8 (boolCode (Line.operate s.time op (s.line l)).pulse.isSome)] }
        else s.beginService.pushPath { tag := q.tag, kind := 0x5D, payload := [0x08] }) := by
  rw [exec_driveLine h]
  split
  next hcue => rw [driveLineRule_of_cue (s := s.beginService) hline hop hcue]; rfl
  next hcue => rw [driveLineRule_of_not_cue (s := s.beginService) hline hop hcue]

theorem exec_driveLine_badArg (h : Served q (.driveLine q line operation width) s)
    (hbad : lineOf line = none ∨ lineOperationOf operation width = none) :
    exec (.driveLine q line operation width) s =
      .next (s.beginService.pushPath { tag := q.tag, kind := 0x5D, payload := [0x02] }) := by
  rw [exec_driveLine h, driveLineRule_of_badArg hbad]

end

/-- Settles O18, by the line's range and then the operation's code; the arguments are decided before the line's
function. -/
theorem driveLineOperates : Obligations.DriveLineOperates := by
  intro s q line operation width hserved
  by_cases hline : 1 ≤ line ∧ line ≤ 20
  · rw [dif_pos hline]
    have hread := lineOf_of_mem hline
    match operation with
    | 0 => exact exec_driveLine_operation hserved hread rfl
    | 1 => exact exec_driveLine_operation hserved hread rfl
    | 2 => exact exec_driveLine_operation hserved hread rfl
    | code + 3 =>
      by_cases hpulse : code + 3 = 3 ∧ 10 ≤ width ∧ width ≤ 5000
      · obtain rfl : code = 0 := by omega
        simp only [hpulse, and_self, if_true]
        exact exec_driveLine_operation hserved hread (lineOperationOf_pulse hpulse.2)
      · rw [exec_driveLine_badArg hserved (.inr (lineOperationOf_eq_none (by omega) hpulse))]
        have hset : ¬ code + 3 = 0 := by omega
        have hclear : ¬ code + 3 = 1 := by omega
        have htoggle : ¬ code + 3 = 2 := by omega
        simp only [if_neg hset, if_neg hclear, if_neg htoggle, if_neg hpulse]
  · rw [dif_neg hline]
    exact exec_driveLine_badArg hserved (.inl (lineOf_eq_none hline))

end Sys2Proof.Machine
end

section
/-! Admission to the event queue (section 10.2): the rule of R180 in words, and a posting under each of its three ends. -/

namespace Sys2Proof.Machine

/-! ### The rule -/

/-- R180's three conditions. -/
theorem admits_iff {p fill : Nat} : admits p fill = true ↔ 0 < p ∧ fill < 256 ∧ (fill < 224 ∨ 5 ≤ p) := by
  simp only [admits, Bool.and_eq_true, Bool.or_eq_true, decide_eq_true_eq, and_assoc]
  exact and_congr_right fun _ => and_comm

/-- Counting up to a bound: the least of the next value and the bound. -/
theorem min_succ_eq_ite {n bound : Nat} : min (n + 1) bound = if n < bound then n + 1 else bound := by
  split <;> omega

/-! ### A posting -/

section
variable {s : State} {what : EventType} {screen : Option ScreenIx} {position : Option Nat} {detail : List Byte}

theorem State.postAt_of_priority_zero (hp : s.queue.priorities.of what = 0) :
    s.postAt what screen position detail = s := by
  obtain ⟨-, hpost⟩ | ⟨hpos, -⟩ | ⟨hpos, -⟩ := State.postAt_cases (s := s) what screen position detail
  · exact hpost
  · omega
  · omega

/-- An admitted record stands at the newest end and carries off the lost count, with or without a notice (R181). -/
theorem State.postAt_of_admits (h : admits (s.queue.priorities.of what) s.queue.records.length = true) :
    (s.postAt what screen position detail).queue.records = s.queue.records ++
        [{ what := what, screen := screen, time := s.time, position := position, lost := s.queue.lost,
           detail := detail }] ∧
      (s.postAt what screen position detail).queue.lost = 0 := by
  obtain ⟨hzero, -⟩ | ⟨-, -, notify, -, hpost⟩ | ⟨-, hnot, -⟩ :=
    State.postAt_cases (s := s) what screen position detail
  · obtain ⟨hpos, -⟩ := admits_iff.mp h
    omega
  · rw [hpost]
    cases notify <;> exact ⟨rfl, rfl⟩
  · rw [h] at hnot
    cases hnot

/-- A record of a priority above 0 that is not admitted only raises the lost count (R181). -/
theorem State.postAt_of_not_admits (hp : 0 < s.queue.priorities.of what)
    (h : ¬ admits (s.queue.priorities.of what) s.queue.records.length = true) :
    s.postAt what screen position detail =
      s.modQueue (fun q => { q with lost := if q.lost < 65535 then q.lost + 1 else 65535 }) := by
  obtain ⟨hzero, -⟩ | ⟨-, hadmits, -⟩ | ⟨-, -, hpost⟩ := State.postAt_cases (s := s) what screen position detail
  · omega
  · exact absurd hadmits h
  · simp only [hpost, min_succ_eq_ite]

end

/-- Settles O11, by the three ends of a posting; each kind's priority is read off the table. -/
theorem admissionFollowsPriority : Obligations.AdmissionFollowsPriority := by
  intro s what screen position detail
  refine ⟨⟨rfl, rfl⟩, ?kind, State.postAt_of_priority_zero, ?admitted, ?lost⟩
  case kind => cases what <;> rfl
  case admitted =>
    intro hpos hroom hreserve
    exact State.postAt_of_admits (admits_iff.mpr ⟨hpos, hroom, hreserve⟩)
  case lost =>
    intro hpos hnot
    refine State.postAt_of_not_admits hpos fun hadmits => hnot ?_
    obtain ⟨-, hroom, hreserve⟩ := admits_iff.mp hadmits
    exact ⟨hroom, hreserve⟩

end Sys2Proof.Machine
end

section
/-! The shared operations as the invariants see them: what a posting and a pace message do to the queue, the reply path and
the messages sent, and what a change of one screen leaves. -/

namespace Sys2Proof.Machine

/-! ### Outcomes -/

/-- A command answers one state. -/
theorem outcome_next_inj {s t : State} (h : (Host.Outcome.next s : Host.Outcome State Fault Refusal) = .next t) : s = t :=
  Host.Outcome.next.inj h

/-! ### A change of one screen -/

theorem State.scr_modScreen_same {s : State} {i : ScreenIx} {f : Screen → Screen} :
    (s.modScreen i f).scr i = f (s.scr i) := by simp

theorem State.scr_modScreen_of_ne {s : State} {i j : ScreenIx} {f : Screen → Screen} (h : j ≠ i) :
    (s.modScreen i f).scr j = s.scr j := by
  rw [State.scr_modScreen, if_neg (Ne.symm h)]

/-- Putting a screen back as it is changes nothing. -/
@[simp] theorem State.set_scr_self {s : State} {i : ScreenIx} : s.screens.set i (s.scr i) = s.screens := by
  simp [State.scr]

theorem State.scr_of_screens {s t : State} (h : t.screens = s.screens) (j : ScreenIx) : t.scr j = s.scr j := by
  simp only [State.scr, h]

theorem State.scr_set {s t : State} {i j : ScreenIx} {c : Screen} (h : t.screens = s.screens.set i c) :
    t.scr j = if i = j then c else s.scr j := by
  simp only [State.scr, h, Fin.getElem_fin, Vector.getElem_set, Fin.ext_iff]

/-! ### Places on the reply path (R195, R196) -/

/-- The places of the reply path that are taken, one of them counted for the notice while no attention is outstanding. -/
def State.claim (s : State) : Nat := s.port.path.length + if s.queue.attention then 0 else 1

theorem State.path_le_claim {s : State} : s.port.path.length ≤ s.claim := by
  unfold State.claim
  omega

theorem State.claim_le {s : State} : s.claim ≤ s.port.path.length + 1 := by
  unfold State.claim
  split <;> omega

/-- The law of the control port in terms of the places taken: a full path, or before READY a path that is not empty, leaves no
place for a notice. -/
theorem portInv_iff {s : State} :
    PortInv s ↔ s.port.holding.length ≤ 4 ∧ s.claim ≤ 16 ∧ (s.port.phase = .starting → s.claim ≤ 1) := by
  unfold PortInv State.claim
  by_cases hstarting : s.port.phase = .starting <;> cases s.queue.attention <;>
    simp only [hstarting, true_imp_iff, false_imp_iff, implies_true, Bool.false_eq_true, if_true, if_false, imp_false,
      and_true, true_and] <;> omega

/-! ### Posting -/

section
variable {s : State} {what : EventType} {screen : Option ScreenIx} {position : Option Nat} {detail : List Byte}

/-- A notice takes the place that was counted for it. -/
theorem State.claim_postAt_le : (s.postAt what screen position detail).claim ≤ s.claim := by
  obtain ⟨-, hpost⟩ | ⟨-, -, notify, hnotify, hpost⟩ | ⟨-, -, hpost⟩ :=
    State.postAt_cases (s := s) what screen position detail
  · exact Nat.le_of_eq (congrArg State.claim hpost)
  · rw [hpost]
    cases notify
    · simp [State.claim]
    · have hquiet : s.queue.attention = false := (hnotify.mp rfl).1
      simp [State.claim, hquiet]
  · rw [hpost]
    exact Nat.le_refl _

theorem QueueInv.postAt (h : QueueInv s) : QueueInv (s.postAt what screen position detail) := by
  obtain ⟨hrecords, hlost⟩ := h
  obtain ⟨-, hpost⟩ | ⟨-, hadmits, notify, -, hpost⟩ | ⟨-, -, hpost⟩ :=
    State.postAt_cases (s := s) what screen position detail
  · rw [hpost]
    exact ⟨hrecords, hlost⟩
  · obtain ⟨-, hroom, -⟩ := admits_iff.mp hadmits
    rw [hpost]
    have hlength (r : EventRecord) : (s.queue.records ++ [r]).length ≤ 256 := by
      rw [List.length_append]
      exact hroom
    cases notify <;> exact ⟨hlength _, Nat.zero_le _⟩
  · rw [hpost]
    exact ⟨hrecords, Nat.min_le_right _ _⟩

/-- A posting changes the queue and the path only. -/
theorem State.postAt_eq :
    s.postAt what screen position detail =
      { s with
        queue := (s.postAt what screen position detail).queue,
        port := { s.port with path := (s.postAt what screen position detail).port.path } } := by
  obtain ⟨q, path, h⟩ := State.postAt_frame (s := s) (what := what) (screen := screen) (position := position)
    (detail := detail)
  rw [h]

/-- What a posting does depends on the part time, the queue and the port only. -/
theorem State.postAt_congr {t : State} (htime : t.time = s.time) (hqueue : t.queue = s.queue) (hport : t.port = s.port) :
    t.postAt what screen position detail =
      { t with
        queue := (s.postAt what screen position detail).queue,
        port := (s.postAt what screen position detail).port } := by
  cases t
  cases htime
  cases hqueue
  cases hport
  by_cases hzero : s.queue.priorities.of what = 0
  · simp only [State.postAt, hzero, if_true]
  · cases hadmits : admits (s.queue.priorities.of what) s.queue.records.length
    · simp only [State.postAt, hzero, hadmits, if_false, Bool.false_eq_true, State.modQueue]
    · simp only [State.postAt, hzero, hadmits, if_true, if_false]
      split <;> rfl

end

/-- A record of a screen is posted with the position of its clock. -/
theorem State.post_eq_postAt {s : State} {what : EventType} {i : ScreenIx} {detail : List Byte} :
    s.post what i detail = s.postAt what (some i) (some (s.scr i).clock.position) detail := rfl

theorem State.post_congr {s t : State} {what : EventType} {i : ScreenIx} {detail : List Byte} (htime : t.time = s.time)
    (hqueue : t.queue = s.queue) (hport : t.port = s.port) (hposition : (t.scr i).clock.position = (s.scr i).clock.position) :
    t.post what i detail =
      { t with queue := (s.post what i detail).queue, port := (s.post what i detail).port } := by
  rw [State.post_eq_postAt, State.post_eq_postAt, hposition]
  exact State.postAt_congr htime hqueue hport

@[simp] theorem State.line_postAt {s : State} {what : EventType} {screen : Option ScreenIx} {position : Option Nat}
    {detail : List Byte} {l : LineIx} : (s.postAt what screen position detail).line l = s.line l := by
  simp only [State.line, State.postAt_lines]

@[simp] theorem State.slot_postAt {s : State} {what : EventType} {screen : Option ScreenIx} {position : Option Nat}
    {detail : List Byte} {j : ScreenIx} {l : Letter} :
    (s.postAt what screen position detail).slot j l = s.slot j l := by
  simp only [State.slot, State.scr_postAt]

/-! ### Pace messages -/

section
variable {s : State} {i j : ScreenIx} {l : Letter} {hold : Bool} {count : Nat}

@[simp] theorem State.scr_sendPace : (s.sendPace i l hold count).scr j = s.scr j := by
  obtain ⟨out, h⟩ := State.sendPace_frame (s := s) (i := i) (l := l) (hold := hold) (count := count)
  rw [h]
  rfl

/-- The PACE_GO and the PACE_HOLD that go out are those the readings of R14 and R15 give. -/
theorem State.sendPace_go (h : (s.slot i l).holding = true) :
    s.sendPace i l false 0 = { s with paceOut := s.paceOut ++ (s.slot i l).paceGo } := by
  unfold State.sendPace Slot.paceGo
  rw [h]
  cases (s.slot i l).source <;> cases (s.slot i l).streamId <;>
    simp [pacePayload, audioType, u8, u16, u32, beBytes, Config.ethernetMinimum]

theorem State.sendPace_hold :
    s.sendPace i l true count = { s with paceOut := s.paceOut ++ (s.slot i l).paceHold count } := by
  unfold State.sendPace Slot.paceHold
  cases (s.slot i l).source <;> cases (s.slot i l).streamId <;>
    simp [pacePayload, audioType, u8, u16, u32, beBytes, Config.ethernetMinimum]

@[simp] theorem Slot.paceGo_of_not_holding {x : Slot} (h : x.holding = false) : x.paceGo = [] := by
  simp [Slot.paceGo, h]

/-- The end of a holding in the rule's terms: the PACE_GO of the slot, and it is holding no more (R15). -/
theorem State.endHolding_eq :
    s.endHolding i l =
      { s.modSlot i l (fun x => { x with holding := false }) with paceOut := s.paceOut ++ (s.slot i l).paceGo } := by
  unfold State.endHolding
  split
  next h => rw [State.sendPace_go h]; rfl
  next h =>
    have hnot : (s.slot i l).holding = false := by simpa using h
    have hsame : s.modSlot i l (fun x => { x with holding := false }) = s := by
      have hslot : { s.slot i l with holding := false } = s.slot i l := by rw [← hnot]
      have hset : (s.scr i).intake.setSlot l (s.slot i l) = (s.scr i).intake := by
        cases l <;> rfl
      simp only [State.modSlot, State.modIntake, State.modScreen]
      have : { (s.scr i).intake.slot l with holding := false } = s.slot i l := hslot
      rw [this, hset, State.set_scr_self]
    rw [hsame, Slot.paceGo_of_not_holding hnot, List.append_nil]

end

end Sys2Proof.Machine
end

section
/-! What the work of one screen may do, said once: the relation `Work` and its rules. The boundary's stages, the commands of
the clock, the actions of cues and the placing of packets are each shown to be such work, and the laws that every step
keeps are read off the relation. -/

namespace Sys2Proof.Machine

/-! ### The blocks of a screen -/

/-- A change of an intake that keeps its laws and its stream IDs. -/
structure Intake.Kept (k k' : Intake) : Prop where
  law : k.Inv → k'.Inv
  streamId : ∀ l, (k'.slot l).streamId = (k.slot l).streamId
  buffer : ∀ l, (k.slot l).BufferInv → (k'.slot l).BufferInv

/-- An entry apart from its state: what of a cue list only the requests of R146 and R148 change. -/
def CueEntry.fixed (e : CueEntry) : CueEntry := { e with state := .armed }

/-- What of a screen its bands in the pool depend on (R71). -/
def Screen.claims (c : Screen) : Byte × Target × Option Target × SwitchState × Option CutPhase × Nat :=
  (c.decoder.mask, c.equaliser.active, c.equaliser.incoming, c.equaliser.switch, c.equaliser.phase, c.equaliser.delta)

/-- A change of a screen that keeps the laws of its blocks, and leaves its layout, its meters, its alarms, its guard, its
lane, its shadow counters and the entries of its cue list apart from their states. -/
structure Screen.Kept (c c' : Screen) : Prop where
  intake : c.intake.Kept c'.intake
  steering : c.decoder.Inv → c'.decoder.Inv
  mask : c'.decoder.mask = c.decoder.mask
  topology : c'.decoder.topology = c.decoder.topology
  delay : c'.decoder.delay = c.decoder.delay
  gain : c.gain.Inv → c'.gain.Inv
  clock : c.clock.Inv → c'.clock.Inv
  cues : c'.cues.map CueEntry.fixed = c.cues.map CueEntry.fixed
  meters : c'.meters = c.meters
  alarms : c'.alarms = c.alarms
  guard : c'.guard = c.guard
  lane : c'.lane = c.lane
  shadow : c'.shadow = c.shadow
  snapshot : c'.snapshot = c.snapshot
  clipBlocks : c'.live.clipBlocks = c.live.clipBlocks

theorem Intake.Kept.refl (k : Intake) : k.Kept k := ⟨id, fun _ => rfl, fun _ => id⟩

theorem Intake.Kept.trans {k k' k'' : Intake} (h : k.Kept k') (h' : k'.Kept k'') : k.Kept k'' :=
  ⟨h'.law ∘ h.law, fun l => (h'.streamId l).trans (h.streamId l), fun l => h'.buffer l ∘ h.buffer l⟩

theorem Screen.Kept.refl (c : Screen) : c.Kept c :=
  ⟨.refl _, id, rfl, rfl, rfl, id, id, rfl, rfl, rfl, rfl, rfl, rfl, rfl, rfl⟩

theorem Screen.Kept.trans {c c' c'' : Screen} (h : c.Kept c') (h' : c'.Kept c'') : c.Kept c'' where
  intake := h.intake.trans h'.intake
  steering := h'.steering ∘ h.steering
  mask := h'.mask.trans h.mask
  topology := h'.topology.trans h.topology
  delay := h'.delay.trans h.delay
  gain := h'.gain ∘ h.gain
  clock := h'.clock ∘ h.clock
  cues := h'.cues.trans h.cues
  meters := h'.meters.trans h.meters
  alarms := h'.alarms.trans h.alarms
  guard := h'.guard.trans h.guard
  lane := h'.lane.trans h.lane
  shadow := h'.shadow.trans h.shadow
  snapshot := h'.snapshot.trans h.snapshot
  clipBlocks := h'.clipBlocks.trans h.clipBlocks

/-! ### A line -/

/-- What the work of screen i may do to a line: nothing but to a CUE output of the screen, whose law it keeps. -/
structure Line.Kept (i : ScreenIx) (x x' : Line) : Prop where
  config : x'.config = x.config
  other : x.cueScreen ≠ some i → x' = x
  law : x.Inv → x'.Inv

theorem Line.Kept.refl (i : ScreenIx) (x : Line) : x.Kept i x := ⟨rfl, fun _ => rfl, id⟩

theorem Line.cueScreen_congr {x y : Line} (h : y.config = x.config) : y.cueScreen = x.cueScreen := by
  simp only [Line.cueScreen, h]

theorem Line.Kept.trans {i : ScreenIx} {x x' x'' : Line} (h : x.Kept i x') (h' : x'.Kept i x'') : x.Kept i x'' where
  config := h'.config.trans h.config
  other := fun hne => (h'.other (by rwa [Line.cueScreen_congr h.config])).trans (h.other hne)
  law := h'.law ∘ h.law

/-- The law of a CUE output. -/
theorem Line.inv_of_cue {x : Line} {i : ScreenIx} (h : x.cueScreen = some i) :
    x.Inv ↔ x.debounceTimer = none ∧ (x.pulse.isSome = true → x.level = true) := by
  unfold Line.cueScreen at h
  unfold Line.Inv
  split at h
  next hconfig => simp only [hconfig]
  next => cases h

theorem Line.cueScreen_eq_some {x : Line} {i : ScreenIx} (h : x.cueScreen = some i) :
    ∃ stop invert, x.config = .output (.cue i stop) invert := by
  unfold Line.cueScreen at h
  split at h
  next hconfig => cases h; exact ⟨_, _, hconfig⟩
  next => cases h

theorem Line.stopFor_of_ne {x : Line} {i : ScreenIx} (h : x.cueScreen ≠ some i) : Line.stopFor i x = x := by
  unfold Line.stopFor
  split
  next hconfig => rw [if_neg]; rintro rfl; exact h (by simp only [Line.cueScreen, hconfig])
  next => rfl

@[simp] theorem Line.stopFor_config {x : Line} {i : ScreenIx} : (Line.stopFor i x).config = x.config := by
  unfold Line.stopFor
  split
  · split
    · split <;> rfl
    · rfl
  · rfl

theorem Line.stopFor_kept {x : Line} {i : ScreenIx} : x.Kept i (Line.stopFor i x) where
  config := Line.stopFor_config
  other := Line.stopFor_of_ne
  law := by
    intro h
    by_cases hcue : x.cueScreen = some i
    · have hcue' : (Line.stopFor i x).cueScreen = some i := by rwa [Line.cueScreen_congr Line.stopFor_config]
      obtain ⟨stop, invert, hconfig⟩ := Line.cueScreen_eq_some hcue
      rw [Line.inv_of_cue hcue] at h
      rw [Line.inv_of_cue hcue']
      cases stop <;> simp [Line.stopFor, hconfig, h]
      exact h.2
    · rwa [Line.stopFor_of_ne hcue]

theorem Line.operate_kept {x : Line} {i : ScreenIx} {now : PartTime} {op : LineOperation} (hcue : x.cueScreen = some i) :
    x.Kept i (Line.operate now op x) where
  config := Line.operate_config
  other := fun hne => absurd hcue hne
  law := by
    intro h
    rw [Line.inv_of_cue hcue] at h
    rw [Line.inv_of_cue (Line.operate_cueScreen.trans hcue)]
    exact ⟨by cases op <;> exact h.1, Line.operate_pulse_on⟩

/-! ### Sums over a list -/

theorem sum_map_congr {α : Type} {f g : α → Nat} {l : List α} (h : ∀ a ∈ l, f a = g a) :
    (l.map f).sum = (l.map g).sum :=
  congrArg List.sum (List.map_congr_left h)

/-- When one summand changes, the sum changes as it does. -/
theorem sum_map_add_of_eq_off {α : Type} {f g : α → Nat} {l : List α} {a : α} (hnodup : l.Nodup) (ha : a ∈ l)
    (hothers : ∀ b, b ≠ a → f b = g b) : (l.map f).sum + g a = (l.map g).sum + f a := by
  induction l with
  | nil => cases ha
  | cons b l ih =>
    obtain ⟨hb, hrest⟩ := List.nodup_cons.mp hnodup
    simp only [List.map_cons, List.sum_cons]
    rcases List.mem_cons.mp ha with rfl | ha
    · have hsame := sum_map_congr (l := l) fun c hc => hothers c fun hca => hb (hca ▸ hc)
      omega
    · have hsame := hothers b fun hba => hb (hba ▸ ha)
      have hsum := ih hrest ha
      omega

theorem le_sum_map {α : Type} {f : α → Nat} {l : List α} {a : α} (ha : a ∈ l) : f a ≤ (l.map f).sum := by
  induction l with
  | nil => cases ha
  | cons b l ih =>
    rw [List.map_cons, List.sum_cons]
    rcases List.mem_cons.mp ha with rfl | ha
    · exact Nat.le_add_right _ _
    · exact Nat.le_trans (ih ha) (Nat.le_add_left _ _)

theorem sum_map_zero {α : Type} (l : List α) : (l.map fun _ => 0).sum = 0 := by
  induction l with
  | nil => rfl
  | cons b l ih => rw [List.map_cons, List.sum_cons, ih]

/-! ### The bands held (R71) -/

theorem State.contents_congr {s t : State} (h : t.library = s.library) : t.contents = s.contents := by
  funext target b
  simp only [State.contents, h]

theorem State.requirementOver_congr {s t : State} (h : t.library = s.library) :
    t.requirementOver = s.requirementOver := by
  funext target mask
  simp only [State.requirementOver, State.contents_congr h]

theorem State.requirement_congr {s t : State} {i : ScreenIx} (h : t.library = s.library)
    (hmask : (t.scr i).decoder.mask = (s.scr i).decoder.mask) : t.requirement i = s.requirement i := by
  funext target
  simp only [State.requirement, State.requirementOver_congr h, hmask]

/-- The fields of a screen's claims. -/
theorem Screen.claims_eq_iff {c c' : Screen} :
    c'.claims = c.claims ↔
      c'.decoder.mask = c.decoder.mask ∧ c'.equaliser.active = c.equaliser.active ∧
        c'.equaliser.incoming = c.equaliser.incoming ∧ c'.equaliser.switch = c.equaliser.switch ∧
        c'.equaliser.phase = c.equaliser.phase ∧ c'.equaliser.delta = c.equaliser.delta := by
  simp only [Screen.claims, Prod.mk.injEq]

theorem State.bandsHeld_congr {s t : State} {i : ScreenIx} (h : t.library = s.library)
    (hclaims : (t.scr i).claims = (s.scr i).claims) : t.bandsHeld i = s.bandsHeld i := by
  obtain ⟨hmask, hactive, hincoming, hswitch, hphase, hdelta⟩ := Screen.claims_eq_iff.mp hclaims
  simp only [State.bandsHeld, State.requirement_congr h hmask, hactive, hincoming, hswitch, hphase, hdelta]

theorem State.bandsHeldInAll_congr {s t : State} (h : t.library = s.library)
    (hclaims : ∀ i, (t.scr i).claims = (s.scr i).claims) : t.bandsHeldInAll = s.bandsHeldInAll := by
  have hheld : t.bandsHeld = s.bandsHeld := funext fun i => State.bandsHeld_congr h (hclaims i)
  simp only [State.bandsHeldInAll, hheld]

theorem State.bandsFree_congr {s t : State} (h : t.library = s.library)
    (hclaims : ∀ i, (t.scr i).claims = (s.scr i).claims) : t.bandsFree = s.bandsFree := by
  simp only [State.bandsFree, State.bandsHeldInAll_congr h hclaims]

/-- The reservation of a cut in its fade-out is enough for its swap (R80). -/
def State.reserved (s : State) (i : ScreenIx) : Prop :=
  (s.scr i).equaliser.switch = .cut → (s.scr i).equaliser.phase = some .fadeOut →
    s.requirement i ((s.scr i).equaliser.incoming.getD none) ≤
      s.requirement i (s.scr i).equaliser.active + (s.scr i).equaliser.delta

theorem bandInv_iff {s : State} : BandInv s ↔ s.bandsHeldInAll ≤ 640 ∧ ∀ i, s.reserved i := Iff.rfl

theorem State.reserved_congr {s t : State} {i : ScreenIx} (h : t.library = s.library)
    (hclaims : (t.scr i).claims = (s.scr i).claims) (hs : s.reserved i) : t.reserved i := by
  obtain ⟨hmask, hactive, hincoming, hswitch, hphase, hdelta⟩ := Screen.claims_eq_iff.mp hclaims
  unfold State.reserved at hs ⊢
  simpa only [State.requirement_congr h hmask, hactive, hincoming, hswitch, hphase, hdelta] using hs

theorem BandInv.congr {s t : State} (h : t.library = s.library) (hclaims : ∀ i, (t.scr i).claims = (s.scr i).claims)
    (hs : BandInv s) : BandInv t :=
  bandInv_iff.mpr
    ⟨State.bandsHeldInAll_congr h hclaims ▸ hs.1, fun i => State.reserved_congr h (hclaims i) (hs.2 i)⟩

/-- When one screen's claims change, the bands held together change as those of the screen do. -/
theorem State.bandsHeldInAll_add {s t : State} {i : ScreenIx} (h : t.library = s.library)
    (hothers : ∀ j, j ≠ i → (t.scr j).claims = (s.scr j).claims) :
    t.bandsHeldInAll + s.bandsHeld i = s.bandsHeldInAll + t.bandsHeld i :=
  sum_map_add_of_eq_off (List.nodup_finRange 8) (List.mem_finRange i) fun j hne =>
    State.bandsHeld_congr h (hothers j hne)

theorem State.bandsHeld_le_all {s : State} {i : ScreenIx} : s.bandsHeld i ≤ s.bandsHeldInAll :=
  le_sum_map (List.mem_finRange i)

/-- A change of one screen's claims keeps the pool's law when the screen then holds no more than it held and the pool has
free, and a cut in its fade-out has reserved enough. -/
theorem BandInv.of_screen {s t : State} {i : ScreenIx} (h : t.library = s.library)
    (hothers : ∀ j, j ≠ i → (t.scr j).claims = (s.scr j).claims) (hs : BandInv s)
    (hheld : t.bandsHeld i ≤ s.bandsHeld i + s.bandsFree) (hreserved : t.reserved i) : BandInv t := by
  refine bandInv_iff.mpr ⟨?_, fun j => ?_⟩
  · have hadd := State.bandsHeldInAll_add h hothers
    have hfree : s.bandsFree = 640 - s.bandsHeldInAll := rfl
    have hle := hs.1
    omega
  · by_cases hj : j = i
    · exact hj ▸ hreserved
    · exact State.reserved_congr h (hothers j hj) (hs.2 j)

/-! ### The relation -/

/-- The part outside the screens, the lines, the queue, the reply path and the pace messages sent. -/
def State.outside (s : State) : State :=
  { s with screens := State.reset.screens, lines := State.reset.lines, queue := EventQueue.reset, paceOut := [],
           port := { s.port with path := [] } }

theorem State.outside_eq_iff {s t : State} :
    t.outside = s.outside ↔
      t = { s with screens := t.screens, lines := t.lines, queue := t.queue, paceOut := t.paceOut,
                   port := { s.port with path := t.port.path } } := by
  constructor
  · intro h
    cases s with
    | mk _ _ _ _ _ _ _ _ _ _ sp _ _ _ =>
      cases t with
      | mk _ _ _ _ _ _ _ _ _ _ tp _ _ _ =>
        cases sp
        cases tp
        simp only [State.outside, State.mk.injEq, Port.mk.injEq] at h ⊢
        simp_all
  · intro h
    rw [h]
    rfl

/-- What the work of screen i may do to the part: it changes its screen and its CUE lines, posts records and sends pace
messages, and keeps the laws. -/
structure Work (i : ScreenIx) (s t : State) : Prop where
  outside : t.outside = s.outside
  others : ∀ j, j ≠ i → t.scr j = s.scr j
  pace : s.paceOut <+: t.paceOut
  queue : QueueInv s → QueueInv t
  claim : t.claim ≤ s.claim
  lines : ∀ l, (s.line l).Kept i (t.line l)
  screen : (s.scr i).Kept (t.scr i)
  bands : BandInv s → BandInv t

namespace Work

variable {i : ScreenIx} {s t u : State}

theorem refl (i : ScreenIx) (s : State) : Work i s s :=
  ⟨rfl, fun _ _ => rfl, List.prefix_rfl, id, Nat.le_refl _, fun _ => .refl _ _, .refl _, id⟩

theorem of_eq (h : t = s) : Work i s t := h ▸ refl i s

theorem trans (h : Work i s t) (h' : Work i t u) : Work i s u where
  outside := h'.outside.trans h.outside
  others := fun j hj => (h'.others j hj).trans (h.others j hj)
  pace := h.pace.trans h'.pace
  queue := h'.queue ∘ h.queue
  claim := Nat.le_trans h'.claim h.claim
  lines := fun l => (h.lines l).trans (h'.lines l)
  screen := h.screen.trans h'.screen
  bands := h'.bands ∘ h.bands

theorem library (h : Work i s t) : t.library = s.library :=
  show t.outside.library = s.outside.library by rw [h.outside]

theorem time (h : Work i s t) : t.time = s.time :=
  show t.outside.time = s.outside.time by rw [h.outside]

theorem frame (h : Work i s t) :
    t = { s with screens := t.screens, lines := t.lines, queue := t.queue, paceOut := t.paceOut,
                 port := { s.port with path := t.port.path } } :=
  State.outside_eq_iff.mp h.outside

/-! ### Its rules -/

theorem postAt {what : EventType} {screen : Option ScreenIx} {position : Option Nat} {detail : List Byte} :
    Work i s (s.postAt what screen position detail) where
  outside := by rw [State.postAt_eq]; rfl
  others := fun j _ => State.scr_postAt
  pace := State.postAt_paceOut ▸ List.prefix_rfl
  queue := QueueInv.postAt
  claim := State.claim_postAt_le
  lines := fun l => by rw [State.line_postAt]; exact .refl _ _
  screen := by rw [State.scr_postAt]; exact .refl _
  bands := BandInv.congr State.postAt_library fun j => by rw [State.scr_postAt]

theorem post {what : EventType} {j : ScreenIx} {detail : List Byte} : Work i s (s.post what j detail) := postAt

theorem sendPace {l : Letter} {hold : Bool} {count : Nat} : Work i s (s.sendPace i l hold count) := by
  obtain ⟨out, h⟩ := State.sendPace_frame (s := s) (i := i) (l := l) (hold := hold) (count := count)
  rw [h]
  exact ⟨rfl, fun _ _ => rfl, List.prefix_append _ _, id, Nat.le_refl _, fun _ => .refl _ _, .refl _, id⟩

/-- A change of the screen, in general. -/
theorem modScreen_of_bands {f : Screen → Screen} (hkept : (s.scr i).Kept (f (s.scr i)))
    (hbands : BandInv s → BandInv (s.modScreen i f)) : Work i s (s.modScreen i f) where
  outside := rfl
  others := fun j hj => State.scr_modScreen_of_ne hj
  pace := List.prefix_rfl
  queue := id
  claim := Nat.le_refl _
  lines := fun l => .refl _ _
  screen := by rw [State.scr_modScreen_same]; exact hkept
  bands := hbands

/-- A change of the screen that leaves the bands it holds. -/
theorem modScreen {f : Screen → Screen} (hkept : (s.scr i).Kept (f (s.scr i)))
    (hclaims : (f (s.scr i)).claims = (s.scr i).claims) : Work i s (s.modScreen i f) :=
  modScreen_of_bands hkept <| BandInv.congr rfl fun j => by
    rw [State.scr_modScreen]
    split
    next h => rw [← h, hclaims]
    next => rfl

theorem modIntake {f : Intake → Intake} (h : (s.scr i).intake.Kept (f (s.scr i).intake)) :
    Work i s (s.modIntake i f) :=
  modScreen { Screen.Kept.refl (s.scr i) with intake := h } rfl

theorem modLive {f : Counters → Counters} (h : (f (s.scr i).live).clipBlocks = (s.scr i).live.clipBlocks) :
    Work i s (s.modLive i f) :=
  modScreen { Screen.Kept.refl (s.scr i) with clipBlocks := h } rfl

theorem modDecoder {f : Decoder → Decoder} (hlaw : (s.scr i).decoder.Inv → (f (s.scr i).decoder).Inv)
    (hmask : (f (s.scr i).decoder).mask = (s.scr i).decoder.mask)
    (htopology : (f (s.scr i).decoder).topology = (s.scr i).decoder.topology)
    (hdelay : (f (s.scr i).decoder).delay = (s.scr i).decoder.delay) : Work i s (s.modDecoder i f) :=
  modScreen
    { Screen.Kept.refl (s.scr i) with steering := hlaw, mask := hmask, topology := htopology, delay := hdelay }
    (Screen.claims_eq_iff.mpr ⟨hmask, rfl, rfl, rfl, rfl, rfl⟩)

theorem modGain {f : Gain → Gain} (h : (s.scr i).gain.Inv → (f (s.scr i).gain).Inv) : Work i s (s.modGain i f) :=
  modScreen { Screen.Kept.refl (s.scr i) with gain := h } rfl

theorem modClock {f : Clock → Clock} (h : (s.scr i).clock.Inv → (f (s.scr i).clock).Inv) : Work i s (s.modClock i f) :=
  modScreen { Screen.Kept.refl (s.scr i) with clock := h } rfl

theorem modCues {f : List CueEntry → List CueEntry}
    (h : (f (s.scr i).cues).map CueEntry.fixed = (s.scr i).cues.map CueEntry.fixed) : Work i s (s.modCues i f) :=
  modScreen { Screen.Kept.refl (s.scr i) with cues := h } rfl

theorem setImmediate {m : Immediate} : Work i s (s.setImmediate i m) := modScreen { Screen.Kept.refl (s.scr i) with } rfl

theorem modEqualiser {f : Equaliser → Equaliser}
    (h : ({ s.scr i with equaliser := f (s.scr i).equaliser } : Screen).claims = (s.scr i).claims) :
    Work i s (s.modEqualiser i f) :=
  modScreen { Screen.Kept.refl (s.scr i) with } h

theorem applyStopPolicy : Work i s (s.applyStopPolicy i) where
  outside := rfl
  others := fun _ _ => rfl
  pace := List.prefix_rfl
  queue := id
  claim := Nat.le_refl _
  lines := fun l => by rw [State.line_applyStopPolicy]; exact Line.stopFor_kept
  screen := .refl _
  bands := id

theorem operateLine {l : LineIx} {op : LineOperation} (h : (s.line l).cueScreen = some i) :
    Work i s (s.operateLine l op) where
  outside := rfl
  others := fun _ _ => rfl
  pace := List.prefix_rfl
  queue := id
  claim := Nat.le_refl _
  lines := fun m => by
    unfold State.operateLine
    rw [State.line_modLine]
    split
    next hm => exact hm ▸ Line.operate_kept h
    next => exact .refl _ _
  screen := .refl _
  bands := id

end Work

end Sys2Proof.Machine
end

section
/-! The intake as work of its screen (chapter 1): the law of the buffers under each change of a slot, and the take, the
placing of a packet and the agreement with new settings as work that touches the intake and the counters only. -/

namespace Sys2Proof.Machine

/-! ### Distances in a buffer (R8, R10) -/

/-- Blocks in ascending order of their distances from a sequence number, each distance from 0 to 63. -/
def Ascending (e : Seq) (bs : List Block) : Prop :=
  (∀ b ∈ bs, (b.seq - e).toNat ≤ 63) ∧ bs.Pairwise (fun a b => (a.seq - e).toNat < (b.seq - e).toNat)

/-- Different distances from 0 to 63 are at most 64. -/
theorem Ascending.length_le {e : Seq} {bs : List Block} (h : Ascending e bs) : bs.length ≤ 64 := by
  obtain ⟨hdistance, hascending⟩ := h
  have hnodup : (bs.map fun b => (b.seq - e).toNat).Nodup :=
    List.pairwise_map.mpr (hascending.imp fun hlt => Nat.ne_of_lt hlt)
  have hsubset : (bs.map fun b => (b.seq - e).toNat) ⊆ List.range 64 := by
    intro d hd
    obtain ⟨b, hb, rfl⟩ := List.mem_map.mp hd
    exact List.mem_range.mpr (Nat.lt_succ_of_le (hdistance b hb))
  simpa using hnodup.length_le_of_subset hsubset

theorem Ascending.nil {e : Seq} : Ascending e [] := ⟨fun _ hb => (nomatch hb), List.Pairwise.nil⟩

theorem Ascending.singleton {b : Block} : Ascending b.seq [b] := by
  simp [Ascending, -BitVec.toNat_sub]

/-- Behind a block that leaves, the distances are those from the sequence number after it. -/
theorem Ascending.behind {e : Seq} {b : Block} {gone rest : List Block} (h : Ascending e (gone ++ b :: rest)) :
    Ascending (b.seq + 1) rest := by
  obtain ⟨hdistance, hascending⟩ := h
  obtain ⟨-, hrest, -⟩ := List.pairwise_append.mp hascending
  obtain ⟨hfirst, hrest⟩ := List.pairwise_cons.mp hrest
  refine ⟨fun c hc => ?_, hrest.imp_of_mem fun {c c'} hc hc' hlt => ?_⟩
  · have hnear := hdistance c (by simp [hc])
    have hlt := hfirst c hc
    bv_omega
  · have hlt₁ := hfirst c hc
    have hlt₂ := hfirst c' hc'
    bv_omega

/-- A block that falls due and is not there lets every distance fall by one. -/
theorem Ascending.advance {e : Seq} {bs : List Block} (h : Ascending e bs) (hgap : ∀ b ∈ bs, b.seq ≠ e) :
    Ascending (e + 1) bs := by
  obtain ⟨hdistance, hascending⟩ := h
  refine ⟨fun c hc => ?_, hascending.imp_of_mem fun {c c'} hc hc' hlt => ?_⟩
  · have hnear := hdistance c hc
    have hne := hgap c hc
    bv_omega
  · have hne := hgap c hc
    bv_omega

/-- Past the oldest block, which is not the one expected, no block is the one expected. -/
theorem Ascending.gap {e : Seq} {b : Block} {rest : List Block} (h : Ascending e (b :: rest)) (hne : b.seq ≠ e) :
    ∀ c ∈ b :: rest, c.seq ≠ e := by
  obtain ⟨-, hascending⟩ := h
  intro c hc
  rcases List.mem_cons.mp hc with rfl | hc
  · exact hne
  · have hlt := (List.pairwise_cons.mp hascending).1 c hc
    bv_omega

theorem mem_insertBlock {e : Seq} {b c : Block} {bs : List Block} : c ∈ insertBlock e b bs ↔ c = b ∨ c ∈ bs := by
  induction bs with
  | nil => simp [insertBlock]
  | cons d rest ih =>
    unfold insertBlock
    split
    · simp
    · simp only [List.mem_cons, ih]
      exact or_left_comm

theorem Ascending.insertBlock {e : Seq} {b : Block} {bs : List Block} (h : Ascending e bs)
    (hnear : seqDistance b.seq e < 64) (hnew : ∀ c ∈ bs, c.seq ≠ b.seq) : Ascending e (insertBlock e b bs) := by
  obtain ⟨hdistance, hascending⟩ := h
  refine ⟨fun c hc => ?_, ?_⟩
  · rcases mem_insertBlock.mp hc with rfl | hc
    · exact Nat.le_of_lt_succ hnear
    · exact hdistance c hc
  · clear hdistance hnear
    induction bs with
    | nil => simp [Machine.insertBlock]
    | cons d rest ih =>
      obtain ⟨hfirst, hrest⟩ := List.pairwise_cons.mp hascending
      obtain ⟨hd, hnew⟩ := List.forall_mem_cons.mp hnew
      unfold Machine.insertBlock
      split
      next hlt =>
        unfold seqDistance at hlt
        refine List.pairwise_cons.mpr ⟨fun c hc => ?_, hascending⟩
        rcases List.mem_cons.mp hc with rfl | hc
        · exact hlt
        · exact Nat.lt_trans hlt (hfirst c hc)
      next hge =>
        refine List.pairwise_cons.mpr ⟨fun c hc => ?_, ih hnew hrest⟩
        rcases mem_insertBlock.mp hc with rfl | hc
        · unfold seqDistance at hge
          bv_omega
        · exact hfirst c hc

/-! ### The law of a buffer (R8) -/

/-- The slot states in which a slot has an expected sequence. -/
def SlotState.expects (x : SlotState) : Prop := x ≠ .empty ∧ x ≠ .waiting

theorem Slot.bufferInv_of_some {x : Slot} {e : Seq} (h : x.expected = some e) :
    x.BufferInv ↔ x.state.expects ∧ Ascending e x.buffer := by
  unfold Slot.BufferInv SlotState.expects
  rw [h]
  simp only [reduceCtorEq, false_iff, not_or]
  exact and_congr_right fun _ => ⟨fun h => h.2, fun h => ⟨h.length_le, h⟩⟩

theorem Slot.bufferInv_of_none {x : Slot} (h : x.expected = none) : x.BufferInv ↔ ¬ x.state.expects ∧ x.buffer = [] := by
  unfold Slot.BufferInv SlotState.expects
  rw [h]
  simp only [true_iff, Classical.not_and_iff_not_or_not, Classical.not_not]

theorem Slot.BufferInv.expected {x : Slot} (h : x.BufferInv) (hstate : x.state.expects) :
    ∃ e, x.expected = some e ∧ Ascending e x.buffer := by
  cases he : x.expected with
  | none => exact absurd hstate ((Slot.bufferInv_of_none he).mp h).1
  | some e => exact ⟨e, rfl, ((Slot.bufferInv_of_some he).mp h).2⟩

/-- A slot that keeps its expected sequence and its blocks keeps the law in a state of the same kind. -/
theorem Slot.BufferInv.congr {x y : Slot} (h : x.BufferInv) (hexpected : y.expected = x.expected)
    (hbuffer : y.buffer = x.buffer) (hstate : y.state.expects ↔ x.state.expects) : y.BufferInv := by
  cases he : x.expected with
  | none =>
    rw [Slot.bufferInv_of_none he] at h
    rw [Slot.bufferInv_of_none (hexpected.trans he), hbuffer, hstate]
    exact h
  | some e =>
    rw [Slot.bufferInv_of_some he] at h
    rw [Slot.bufferInv_of_some (hexpected.trans he), hbuffer, hstate]
    exact h

/-- The slide in the rule's terms (R13). -/
theorem Slot.slide_eq {start : Nat} {x : Slot} :
    Slot.slide start x =
      { x with
        buffer := x.buffer.drop (x.buffer.length - start),
        expected :=
          match (x.buffer.take (x.buffer.length - start)).getLast? with
          | some b => some (b.seq + 1)
          | none => x.expected } := by
  unfold Slot.slide Slot.fill
  dsimp only
  split
  next hnone =>
    rw [List.getLast?_eq_none_iff, List.take_eq_nil_iff] at hnone
    rcases hnone with hzero | hnil
    · simp [hzero]
    · cases x
      cases hnil
      simp
  next b hlast => simp [hlast]

@[simp] theorem Slot.slide_state {start : Nat} {x : Slot} : (Slot.slide start x).state = x.state := by
  rw [Slot.slide_eq]

@[simp] theorem Slot.slide_streamId {start : Nat} {x : Slot} : (Slot.slide start x).streamId = x.streamId := by
  rw [Slot.slide_eq]

@[simp] theorem Slot.slide_holding {start : Nat} {x : Slot} : (Slot.slide start x).holding = x.holding := by
  rw [Slot.slide_eq]

theorem Slot.BufferInv.slide {x : Slot} {start : Nat} (h : x.BufferInv) (hstate : x.state.expects) :
    (Slot.slide start x).BufferInv := by
  obtain ⟨e, he, hascending⟩ := h.expected hstate
  rw [Slot.slide_eq]
  cases hlast : (x.buffer.take (x.buffer.length - start)).getLast? with
  | none =>
    rw [List.getLast?_eq_none_iff, List.take_eq_nil_iff] at hlast
    refine (Slot.bufferInv_of_some (e := e) ?_).mpr ⟨hstate, ?_⟩
    · exact he
    rcases hlast with hzero | hnil
    · simpa [hzero] using hascending
    · simpa [hnil] using Ascending.nil
  | some b =>
    refine (Slot.bufferInv_of_some rfl).mpr ⟨hstate, ?_⟩
    obtain ⟨gone, hgone⟩ := List.getLast?_eq_some_iff.mp hlast
    have hsplit : x.buffer = gone ++ b :: x.buffer.drop (x.buffer.length - start) := by
      have hparts := List.take_append_drop (x.buffer.length - start) x.buffer
      rw [hgone, List.append_assoc] at hparts
      exact hparts.symm
    exact Ascending.behind (gone := gone) (hsplit ▸ hascending)

/-- The slot that follows a block it has given up (R19, R21, R22). -/
theorem Slot.BufferInv.give {x y : Slot} {b : Block} {rest : List Block} (h : x.BufferInv) (hstate : x.state.expects)
    (hbuffer : x.buffer = b :: rest) (hystate : y.state = x.state) (hyexpected : y.expected = some (b.seq + 1))
    (hybuffer : y.buffer = rest) : y.BufferInv := by
  obtain ⟨e, -, hascending⟩ := h.expected hstate
  rw [hbuffer] at hascending
  rw [Slot.bufferInv_of_some hyexpected, hystate, hybuffer]
  exact ⟨hstate, hascending.behind (gone := [])⟩

/-- The slot past a block that falls due and is not there (R19, R21). -/
theorem Slot.BufferInv.skip {x : Slot} (h : x.BufferInv) (hstate : x.state.expects)
    (hgap : ∀ b rest, x.buffer = b :: rest → b.seq ≠ x.next) :
    Slot.BufferInv { x with expected := some (x.next + 1) } := by
  obtain ⟨e, he, hascending⟩ := h.expected hstate
  have hnext : x.next = e := by simp [Slot.next, he]
  rw [hnext] at hgap ⊢
  refine (Slot.bufferInv_of_some rfl).mpr ⟨hstate, hascending.advance ?_⟩
  cases hbuffer : x.buffer with
  | nil => exact fun _ hb => nomatch hb
  | cons b rest => exact (hbuffer ▸ hascending).gap (hgap b rest hbuffer)

theorem Slot.BufferInv.insert {x : Slot} {b : Block} {now : Option PartTime} (h : x.BufferInv)
    (hstate : x.state.expects) (hnear : seqDistance b.seq x.next < 64) (hnew : ∀ c ∈ x.buffer, c.seq ≠ b.seq) :
    Slot.BufferInv { x with buffer := insertBlock x.next b x.buffer, lastAccepted := now } := by
  obtain ⟨e, he, hascending⟩ := h.expected hstate
  have hnext : x.next = e := by simp [Slot.next, he]
  rw [hnext] at hnear ⊢
  refine (Slot.bufferInv_of_some (e := e) ?_).mpr ⟨hstate, hascending.insertBlock hnear hnew⟩
  exact he

/-- A slot that begins with one block expects it (R9, R11). -/
theorem Slot.bufferInv_of_one {x : Slot} {b : Block} (hstate : x.state.expects) (hexpected : x.expected = some b.seq)
    (hbuffer : x.buffer = [b]) : x.BufferInv :=
  (Slot.bufferInv_of_some hexpected).mpr ⟨hstate, hbuffer ▸ Ascending.singleton⟩

/-! ### A change of one slot -/

/-- A change of a slot that keeps the laws of its intake; `named` says that the selection names the slot. -/
structure Slot.Kept (named : Prop) (x y : Slot) : Prop where
  streamId : y.streamId = x.streamId
  play : y.state = .playing → x.state = .playing ∨ named
  hold : y.holding = true → y.state = .playing ∨ (x.holding = true ∧ x.state ≠ .playing)
  buffer : x.BufferInv → y.BufferInv

theorem Intake.setSlot_selection {k : Intake} {l : Letter} {y : Slot} : (k.setSlot l y).selection = k.selection := by
  cases l <;> rfl

theorem Intake.setSlot_slot {k : Intake} {l : Letter} : k.setSlot l (k.slot l) = k := by
  cases l <;> rfl

theorem Intake.Kept.setSlot {k : Intake} {l : Letter} {y : Slot} (h : (k.slot l).Kept (l = k.selection) y) :
    k.Kept (k.setSlot l y) where
  law := by
    intro hlaw m
    rw [Intake.setSlot_selection, Intake.slot_setSlot]
    split
    next hm =>
      subst hm
      obtain ⟨hplaying, hholding⟩ := hlaw l
      refine ⟨fun hy => (h.play hy).elim hplaying id, fun hy => ?_⟩
      rcases h.hold hy with hplay | ⟨hx, hnot⟩
      · exact hplay
      · exact absurd (hholding hx) hnot
    next => exact hlaw m
  streamId := fun m => by
    rw [Intake.slot_setSlot]
    split
    next hm => exact hm ▸ h.streamId
    next => rfl
  buffer := fun m hm => by
    rw [Intake.slot_setSlot]
    split
    next heq => exact h.buffer (heq ▸ hm)
    next => exact hm

/-! ### Work on the intake -/

/-- Work of a screen that touches the intake and the counters only. -/
structure IntakeWork (i : ScreenIx) (s t : State) : Prop extends Work i s t where
  only : t.scr i = { s.scr i with intake := (t.scr i).intake, live := (t.scr i).live }
  noLines : t.lines = s.lines

namespace IntakeWork

variable {i : ScreenIx} {s t u : State} {l : Letter}

theorem refl (i : ScreenIx) (s : State) : IntakeWork i s s := ⟨.refl i s, rfl, rfl⟩

theorem of_eq (h : t = s) : IntakeWork i s t := h ▸ refl i s

theorem trans (h : IntakeWork i s t) (h' : IntakeWork i t u) : IntakeWork i s u where
  toWork := h.toWork.trans h'.toWork
  only := by
    have hu := h'.only
    rw [h.only] at hu
    exact hu
  noLines := h'.noLines.trans h.noLines

theorem post {what : EventType} {j : ScreenIx} {detail : List Byte} : IntakeWork i s (s.post what j detail) :=
  ⟨.post, by rw [State.scr_post], State.postAt_lines⟩

theorem sendPace {hold : Bool} {count : Nat} : IntakeWork i s (s.sendPace i l hold count) := by
  refine ⟨.sendPace, by rw [State.scr_sendPace], ?_⟩
  obtain ⟨out, h⟩ := State.sendPace_frame (s := s) (i := i) (l := l) (hold := hold) (count := count)
  rw [h]

theorem modIntake {f : Intake → Intake} (h : (s.scr i).intake.Kept (f (s.scr i).intake)) :
    IntakeWork i s (s.modIntake i f) :=
  ⟨.modIntake h, by simp, rfl⟩

theorem modLive {f : Counters → Counters} (h : (f (s.scr i).live).clipBlocks = (s.scr i).live.clipBlocks) :
    IntakeWork i s (s.modLive i f) :=
  ⟨.modLive h, by simp, rfl⟩

theorem modSlot {f : Slot → Slot} (h : (s.slot i l).Kept (l = (s.scr i).intake.selection) (f (s.slot i l))) :
    IntakeWork i s (s.modSlot i l f) :=
  modIntake (Intake.Kept.setSlot h)

end IntakeWork

end Sys2Proof.Machine
end

section
/-! The operations of the intake as work of their screen (sections 1.2 to 1.5). -/

namespace Sys2Proof.Machine

/-! ### A screen put in place, with pace messages sent -/

/-- The part with a screen put in the place of screen i and pace messages sent behind the others. -/
def State.put (s : State) (i : ScreenIx) (c : Screen) (pace : List EthernetFrame) : State :=
  { s with screens := s.screens.set i c, paceOut := s.paceOut ++ pace }

section
variable {s : State} {i j : ScreenIx} {l : Letter} {c c' : Screen} {pace pace' : List EthernetFrame}

@[simp] theorem State.put_put : (s.put i c pace).put i c' pace' = s.put i c' (pace ++ pace') := by
  simp [State.put]

@[simp] theorem State.scr_put_same : (s.put i c pace).scr i = c := by
  simp [State.put, State.scr]

theorem State.scr_put : (s.put i c pace).scr j = if i = j then c else s.scr j := State.scr_set rfl

@[simp] theorem State.slot_put_same : (s.put i c pace).slot i l = c.intake.slot l := by
  simp [State.slot]

@[simp] theorem State.put_self : s.put i (s.scr i) [] = s := by
  simp [State.put]

@[simp] theorem State.put_time : (s.put i c pace).time = s.time := rfl
@[simp] theorem State.put_queue : (s.put i c pace).queue = s.queue := rfl
@[simp] theorem State.put_port : (s.put i c pace).port = s.port := rfl
@[simp] theorem State.put_lines : (s.put i c pace).lines = s.lines := rfl
@[simp] theorem State.put_paceOut : (s.put i c pace).paceOut = s.paceOut ++ pace := rfl
@[simp] theorem State.put_library : (s.put i c pace).library = s.library := rfl

theorem State.modScreen_eq_put {f : Screen → Screen} : s.modScreen i f = s.put i (f (s.scr i)) [] := by
  simp [State.modScreen, State.put]

theorem State.modIntake_eq_put {f : Intake → Intake} :
    s.modIntake i f = s.put i { s.scr i with intake := f (s.scr i).intake } [] := State.modScreen_eq_put

theorem State.modLive_eq_put {f : Counters → Counters} :
    s.modLive i f = s.put i { s.scr i with live := f (s.scr i).live } [] := State.modScreen_eq_put

theorem State.modSlot_eq_put {f : Slot → Slot} :
    s.modSlot i l f = s.put i { s.scr i with intake := (s.scr i).intake.setSlot l (f (s.slot i l)) } [] :=
  State.modIntake_eq_put

theorem State.endHolding_eq_put :
    s.endHolding i l =
      s.put i { s.scr i with intake := (s.scr i).intake.setSlot l { s.slot i l with holding := false } }
        (s.slot i l).paceGo := State.endHolding_eq

@[simp] theorem Intake.setSlot_setSlot {k : Intake} {x y : Slot} : (k.setSlot l x).setSlot l y = k.setSlot l y := by
  cases l <;> rfl

/-! ### The fields a slot put in place leaves -/

@[simp] theorem Intake.setSlot_start {k : Intake} {y : Slot} : (k.setSlot l y).start = k.start := by cases l <;> rfl
@[simp] theorem Intake.setSlot_low {k : Intake} {y : Slot} : (k.setSlot l y).low = k.low := by cases l <;> rfl
@[simp] theorem Intake.setSlot_high {k : Intake} {y : Slot} : (k.setSlot l y).high = k.high := by cases l <;> rfl
@[simp] theorem Intake.setSlot_policy {k : Intake} {y : Slot} : (k.setSlot l y).policy = k.policy := by cases l <;> rfl
@[simp] theorem Intake.setSlot_pacing {k : Intake} {y : Slot} : (k.setSlot l y).pacing = k.pacing := by cases l <;> rfl
@[simp] theorem Intake.setSlot_staged {k : Intake} {y : Slot} : (k.setSlot l y).staged = k.staged := by cases l <;> rfl
@[simp] theorem Intake.setSlot_lastTaken {k : Intake} {y : Slot} : (k.setSlot l y).lastTaken = k.lastTaken := by cases l <;> rfl
@[simp] theorem Intake.setSlot_followingReal {k : Intake} {y : Slot} : (k.setSlot l y).followingReal = k.followingReal := by cases l <;> rfl

/-- A slot has gone from x to y: a change of state posts STREAM STATE (R5). -/
def State.told (s : State) (i : ScreenIx) (l : Letter) (x y : Slot) : State :=
  if x.state = y.state then s
  else
    s.post .streamState i
      ([BitVec.ofNat 8 l.code] ++ u32 (x.streamId.getD 0xFFFFFFFF).toNat ++
        [BitVec.ofNat 8 x.state.code, BitVec.ofNat 8 y.state.code] ++ u16 y.buffer.length)

theorem State.told_same {x y : Slot} (h : x.state = y.state) : s.told i l x y = s := if_pos h

theorem State.told_congr {u : State} {x x' y y' : Slot} (hu : u = s) (hstate : x'.state = x.state)
    (hid : x'.streamId = x.streamId) (hnew : y'.state = y.state) (hfill : y'.buffer.length = y.buffer.length) :
    u.told i l x' y' = s.told i l x y := by
  rw [State.told, State.told, hu, hstate, hid, hnew, hfill]

theorem State.postSlotState_eq {x y : Slot} (hslot : s.slot i l = y) (hne : x.state ≠ y.state) :
    s.postSlotState i l x.streamId x.state y.state = s.told i l x y := by
  rw [State.told, if_neg hne, State.postSlotState, hslot]
  rfl

/-- A slot takes a state, in the rule's terms (R5). -/
theorem State.enterSlotState_eq {new : SlotState} :
    s.enterSlotState i l new =
      (s.put i { s.scr i with intake := (s.scr i).intake.setSlot l { s.slot i l with state := new } } []).told i l
        (s.slot i l) { s.slot i l with state := new } := by
  unfold State.enterSlotState
  dsimp only
  split
  next h =>
    have hslot : { s.slot i l with state := new } = (s.scr i).intake.slot l := by rw [← h]; rfl
    rw [State.told_same h, hslot, Intake.setSlot_slot, State.put_self]
  next h =>
    rw [State.modSlot_eq_put]
    exact State.postSlotState_eq (y := { s.slot i l with state := new }) (by simp) h

/-- Sliding down to the start level and becoming READY, in the rule's terms (R13). -/
theorem State.enterReady_eq :
    s.enterReady i l =
      let y : Slot := { Slot.slide (s.scr i).intake.start (s.slot i l) with state := .ready }
      (s.put i { s.scr i with intake := (s.scr i).intake.setSlot l y } []).told i l (s.slot i l) y := by
  simp [State.enterReady, State.enterSlotState_eq, State.modSlot_eq_put, State.told]

/-- A record is posted as well behind a change of the screen. -/
theorem State.put_postAt {what : EventType} {screen : Option ScreenIx} {position : Option Nat} {detail : List Byte} :
    (s.postAt what screen position detail).put i c pace = (s.put i c pace).postAt what screen position detail := by
  rw [State.postAt_congr (s := s) (t := s.put i c pace) rfl rfl rfl]
  obtain ⟨q, path, h⟩ := State.postAt_frame (s := s) (what := what) (screen := screen) (position := position)
    (detail := detail)
  rw [h]
  rfl

theorem State.put_post {what : EventType} {detail : List Byte} (hclock : c.clock = (s.scr i).clock) :
    (s.post what i detail).put i c pace = (s.put i c pace).post what i detail := by
  rw [State.post_eq_postAt, State.put_postAt, State.post_eq_postAt, State.scr_put_same, hclock]

theorem State.put_told {x y : Slot} (hclock : c.clock = (s.scr i).clock) :
    (s.told i l x y).put i c pace = (s.put i c pace).told i l x y := by
  unfold State.told
  split
  · rfl
  · exact State.put_post hclock

@[simp] theorem State.scr_told {x y : Slot} : (s.told i l x y).scr j = s.scr j := by
  unfold State.told
  split
  · rfl
  · exact State.scr_post

@[simp] theorem State.slot_told {x y : Slot} {m : Letter} : (s.told i l x y).slot j m = s.slot j m := by
  simp [State.slot]

/-! ### A staged selection (R18) -/

/-- What becomes of the slot that was named when it is named no more (R18). -/
def Intake.dropped (k : Intake) : Slot :=
  let x := k.slot k.selection
  if x.state ≠ .playing then x
  else if k.start ≤ x.buffer.length then { Slot.slide k.start x with state := .ready, holding := false }
  else { x with state := .filling, holding := false }

/-- The PACE_GO the slot sends then. -/
def Intake.droppedPace (k : Intake) : List EthernetFrame :=
  let x := k.slot k.selection
  if x.state = .playing then x.paceGo else []

theorem Slot.slide_holding_congr {start : Nat} {x : Slot} {on : Bool} :
    Slot.slide start { x with holding := on } = { Slot.slide start x with holding := on } := by
  unfold Slot.slide
  dsimp only [Slot.fill]
  split <;> rfl

theorem State.applyStaged_eq (h : (s.scr i).intake.staged ≠ (s.scr i).intake.selection) :
    s.applyStaged i =
      let k := (s.scr i).intake
      (s.put i { s.scr i with intake := { k.setSlot k.selection k.dropped with selection := k.staged } }
        k.droppedPace).told i k.selection (k.slot k.selection) k.dropped := by
  unfold State.applyStaged Intake.dropped Intake.droppedPace
  dsimp only
  rw [if_neg h]
  by_cases hplay : ((s.scr i).intake.slot (s.scr i).intake.selection).state = .playing
  · simp only [hplay, if_true, ne_eq, not_true_eq_false, if_false]
    by_cases hstart : (s.scr i).intake.start ≤ ((s.scr i).intake.slot (s.scr i).intake.selection).buffer.length
    · rw [if_pos (by simpa [Slot.fill] using hstart), if_pos hstart, State.enterReady_eq, State.endHolding_eq_put]
      simp only [State.modIntake_eq_put, State.slot, State.scr_put_same, State.put_put, State.put_told, State.scr_told,
        Intake.slot_setSlot, if_true, Intake.setSlot_setSlot, Intake.setSlot_start, Intake.setSlot_staged,
        Slot.slide_holding_congr, List.append_nil]
      exact State.told_congr rfl rfl rfl rfl rfl
    · rw [if_neg (by simpa [Slot.fill] using hstart), if_neg hstart, State.enterSlotState_eq, State.endHolding_eq_put]
      simp only [State.modIntake_eq_put, State.slot, State.scr_put_same, State.put_put, State.put_told, State.scr_told,
        Intake.slot_setSlot, if_true, Intake.setSlot_setSlot, Intake.setSlot_staged, List.append_nil]
      exact State.told_congr rfl rfl rfl rfl rfl
  · simp [hplay, State.told_same, State.modIntake_eq_put, Intake.setSlot_slot]

/-! ### A slot that starves, and the failover (R21, R22) -/

/-- A PLAYING slot with nothing to play is STARVED: it counts an underrun and ends its holding (R21). -/
def State.starve (s : State) (i : ScreenIx) (l : Letter) : State :=
  ((s.modLive i (fun c => { c with underruns := bumped c.underruns })).endHolding i l).enterSlotState i l .starved

theorem State.starve_eq :
    s.starve i l =
      let x := s.slot i l
      let y : Slot := { x with state := .starved, holding := false }
      let live := (s.scr i).live
      (s.put i
        { s.scr i with
          intake := (s.scr i).intake.setSlot l y, live := { live with underruns := bumped live.underruns } }
        x.paceGo).told i l x y := by
  rw [State.starve, State.enterSlotState_eq, State.endHolding_eq_put, State.modLive_eq_put]
  simp only [State.slot, State.scr_put_same, State.put_put, Intake.slot_setSlot, if_true, Intake.setSlot_setSlot,
    List.nil_append, List.append_nil]
  exact State.told_congr rfl rfl rfl rfl rfl

/-- The failover in the rule's terms: slot B plays its oldest block, behind its two records (R22). -/
theorem State.failover_eq {b : Block} :
    s.failover i b =
      let k := (s.scr i).intake
      let live := (s.scr i).live
      (((s.put i
          { s.scr i with
            intake :=
              { k with
                selection := .b, staged := .b, lastTaken := some b, followingReal := true,
                slotB := { k.slotB with state := .playing, expected := some (b.seq + 1), buffer := k.slotB.buffer.tail } },
            live := { live with failovers := bumped live.failovers } } []).post .streamFailover i
          (u8 Letter.a.code ++ u8 Letter.b.code ++ positionField b.position)).told i .b k.slotB
            { k.slotB with state := .playing }, b.taken) := by
  unfold State.failover State.playOldest
  simp only [State.modIntake_eq_put, State.modLive_eq_put, State.enterSlotState_eq, State.scr_put_same, State.put_put,
    State.put_post, State.put_told, State.scr_post, State.scr_told, State.slot, Intake.slot, Intake.setSlot,
    List.append_nil]

/-! ### Slots that begin again (R9, R11, R23) -/

/-- The first packet of a fill: the slot takes it and is FILLING (R9). -/
theorem State.beginFill_eq {b : Block} {source : Mac} :
    s.beginFill i l b source =
      let x := s.slot i l
      let y : Slot :=
        { x with
          state := .filling, source := some source, lastAccepted := some s.time, expected := some b.seq, buffer := [b] }
      let live := (s.scr i).live
      (s.put i
        { s.scr i with
          intake := (s.scr i).intake.setSlot l y,
          live := { live with packetsAccepted := bumped live.packetsAccepted } } []).told i l x y := by
  simp [State.beginFill, State.enterSlotState_eq, State.modSlot_eq_put, State.modLive_eq_put, State.told]

/-- A packet far ahead: the slot ends its holding and holds that one block, FILLING (R11). -/
theorem State.resync_eq {b : Block} :
    s.resync i l b =
      let x := s.slot i l
      let y : Slot :=
        { x with
          state := .filling, holding := false, lastAccepted := some s.time, expected := some b.seq, buffer := [b] }
      let live := (s.scr i).live
      (s.put i
        { s.scr i with
          intake := (s.scr i).intake.setSlot l y,
          live := { live with packetsAccepted := bumped live.packetsAccepted, resyncs := bumped live.resyncs } }
        x.paceGo).told i l x y := by
  simp [State.resync, State.enterSlotState_eq, State.endHolding_eq_put, State.modSlot_eq_put, State.modLive_eq_put,
    State.told]

end

/-- A change of an intake that leaves its slots and its selection. -/
theorem Intake.Kept.of_slots {k k' : Intake} (ha : k'.slotA = k.slotA) (hb : k'.slotB = k.slotB)
    (hselection : k'.selection = k.selection) : k.Kept k' := by
  have hslot (l : Letter) : k'.slot l = k.slot l := by cases l <;> assumption
  refine ⟨fun h l => ?_, fun l => by rw [hslot], fun l => by rw [hslot]; exact id⟩
  rw [hslot, hselection]
  exact h l

/-- The slot that was named may leave PLAYING, and another selection then be made. -/
theorem Intake.Kept.renamed {k : Intake} {y : Slot} {chosen : Letter}
    (hid : y.streamId = (k.slot k.selection).streamId) (hnot : y.state ≠ .playing)
    (hhold : y.holding = true → y = k.slot k.selection)
    (hbuffer : (k.slot k.selection).BufferInv → y.BufferInv) :
    k.Kept { k.setSlot k.selection y with selection := chosen } := by
  have hslot (m : Letter) :
      Intake.slot { k.setSlot k.selection y with selection := chosen } m = if k.selection = m then y else k.slot m :=
    calc
      _ = (k.setSlot k.selection y).slot m := by cases m <;> rfl
      _ = _ := Intake.slot_setSlot
  refine ⟨fun h m => ?_, fun m => ?_, fun m hm => ?_⟩ <;> rw [hslot] <;> split
  next hsel => exact ⟨fun hplay => absurd hplay hnot, fun hy => hhold hy ▸ (h _).2 (hhold hy ▸ hy)⟩
  next hsel => exact ⟨fun hplay => absurd ((h m).1 hplay).symm hsel, (h m).2⟩
  next hsel => rw [hid, hsel]
  next => rfl
  next hsel => exact hbuffer (hsel ▸ hm)
  next => exact hm

theorem Intake.Kept.dropped {k : Intake} {chosen : Letter} :
    k.Kept { k.setSlot k.selection k.dropped with selection := chosen } := by
  by_cases hplay : (k.slot k.selection).state = .playing
  · have hexpects : (k.slot k.selection).state.expects := by simp [hplay, SlotState.expects]
    by_cases hstart : k.start ≤ (k.slot k.selection).buffer.length
    · have hdropped : k.dropped = { Slot.slide k.start (k.slot k.selection) with state := .ready, holding := false } := by
        simp [Intake.dropped, hplay, hstart]
      rw [hdropped]
      refine .renamed (by simp) (fun h => nomatch h) (fun h => nomatch h) fun h => ?_
      exact (h.slide hexpects).congr rfl rfl (by simp [hplay, SlotState.expects])
    · have hdropped : k.dropped = { k.slot k.selection with state := .filling, holding := false } := by
        simp [Intake.dropped, hplay, hstart]
      rw [hdropped]
      exact .renamed rfl (fun h => nomatch h) (fun h => nomatch h)
        fun h => h.congr rfl rfl (by simp [hplay, SlotState.expects])
  · have hdropped : k.dropped = k.slot k.selection := by simp [Intake.dropped, hplay]
    rw [hdropped]
    exact .renamed rfl hplay (fun _ => rfl) id

theorem Intake.failoverDue_iff {k : Intake} :
    k.failoverDue = true ↔
      k.policy = .failover ∧ k.selection = .a ∧ k.slotA.state = .starved ∧ k.slotB.state = .ready := by
  simp [Intake.failoverDue, and_assoc]

theorem Intake.Kept.failedOver {k : Intake} {b : Block} {rest : List Block} (hdue : k.failoverDue = true)
    (hbuffer : k.slotB.buffer = b :: rest) :
    k.Kept
      { k with
        selection := .b, staged := .b, lastTaken := some b, followingReal := true,
        slotB := { k.slotB with state := .playing, expected := some (b.seq + 1), buffer := k.slotB.buffer.tail } } := by
  obtain ⟨-, -, hstarved, hready⟩ := Intake.failoverDue_iff.mp hdue
  refine ⟨fun h m => ?_, fun m => by cases m <;> rfl, fun m hm => ?_⟩
  · cases m with
    | a => exact ⟨fun hplay => absurd (hstarved.symm.trans hplay) (fun h => nomatch h), (h .a).2⟩
    | b => exact ⟨fun _ => rfl, fun _ => rfl⟩
  · cases m with
    | a => exact hm
    | b =>
      have hexpects : k.slotB.state.expects := by simp [hready, SlotState.expects]
      have hgive : Slot.BufferInv { k.slotB with expected := some (b.seq + 1), buffer := k.slotB.buffer.tail } :=
        Slot.BufferInv.give (x := k.slotB) hm hexpects hbuffer rfl rfl (by simp [hbuffer])
      exact hgive.congr rfl rfl (by simp [hready, SlotState.expects, Intake.slot])

namespace IntakeWork

variable {i : ScreenIx} {s t u : State} {l : Letter}

/-! ### Holding and the slot state (R5, R12 to R15) -/

theorem endHolding : IntakeWork i s (s.endHolding i l) := by
  unfold State.endHolding
  split
  · refine sendPace.trans (modSlot ⟨rfl, fun h => .inl ?_, fun h => (nomatch h), fun h => ?_⟩)
    · exact h
    · exact h.congr rfl rfl Iff.rfl
  · exact refl i s

/-- A slot takes a state: PLAYING only when it is the slot named, and a holding slot leaves PLAYING by no means; the states
without an expected sequence are not entered or left. -/
theorem enterSlotState {new : SlotState} (hplay : new = .playing → l = (s.scr i).intake.selection)
    (hhold : (s.slot i l).holding = true → (s.slot i l).state = .playing → new = .playing)
    (hexpects : new.expects ↔ (s.slot i l).state.expects) : IntakeWork i s (s.enterSlotState i l new) := by
  unfold State.enterSlotState
  dsimp only
  split
  · exact refl i s
  · refine (modSlot ⟨rfl, fun h => .inr (hplay h), fun h => ?_, fun h => h.congr rfl rfl hexpects⟩).trans post
    by_cases hstate : (s.slot i l).state = .playing
    · exact .inl (hhold h hstate)
    · exact .inr ⟨h, hstate⟩

theorem slide {start : Nat} (hexpects : (s.slot i l).state.expects) :
    IntakeWork i s (s.modSlot i l (Slot.slide start)) := by
  refine modSlot ⟨Slot.slide_streamId, fun h => .inl (by simpa using h), fun h => ?_, fun h => h.slide hexpects⟩
  rw [Slot.slide_state]
  rw [Slot.slide_holding] at h
  exact (Classical.em _).imp_right fun hne => ⟨h, hne⟩

theorem enterReady (hnot : (s.slot i l).holding = false ∨ (s.slot i l).state ≠ .playing)
    (hexpects : (s.slot i l).state.expects) : IntakeWork i s (s.enterReady i l) := by
  refine (slide hexpects).trans (enterSlotState (fun h => nomatch h) (fun hhold hplay => ?_) ?_)
  · simp only [State.slot_modSlot, and_self, if_true, Slot.slide_holding, Slot.slide_state] at hhold hplay
    rcases hnot with hfalse | hne
    · rw [hfalse] at hhold
      cases hhold
    · exact absurd hplay hne
  · simp only [State.slot_modSlot, and_self, if_true, Slot.slide_state, hexpects, iff_true]
    exact ⟨fun h => (nomatch h), fun h => (nomatch h)⟩

theorem considerHold (hplay : (s.slot i l).state = .playing) : IntakeWork i s (s.considerHold i l) := by
  unfold State.considerHold
  dsimp only
  split
  · refine sendPace.trans (modSlot ?_)
    have hslot (count : Nat) : (s.sendPace i l true count).slot i l = s.slot i l := by simp [State.slot]
    rw [hslot]
    exact ⟨rfl, fun h => .inl h, fun _ => .inl hplay, fun h => h.congr rfl rfl Iff.rfl⟩
  · exact refl i s

theorem considerGo : IntakeWork i s (s.considerGo i l) := by
  unfold State.considerGo
  split
  · exact endHolding
  · exact refl i s

/-! ### Packets (R9 to R13) -/

theorem putIntake {k : Intake} {live : Counters} {pace : List EthernetFrame} (hintake : (s.scr i).intake.Kept k)
    (hlive : live.clipBlocks = (s.scr i).live.clipBlocks) :
    IntakeWork i s (s.put i { s.scr i with intake := k, live := live } pace) := by
  have hmod := (modIntake (f := fun _ => k) hintake).trans (modLive (f := fun _ => live)
    (by rw [State.modIntake_eq_put, State.scr_put_same]; exact hlive))
  rw [State.modIntake_eq_put, State.modLive_eq_put, State.scr_put_same, State.put_put] at hmod
  have hpace (u : State) : IntakeWork i u { u with paceOut := u.paceOut ++ pace } :=
    ⟨⟨rfl, fun _ _ => rfl, List.prefix_append _ _, id, Nat.le_refl _, fun _ => .refl _ _, .refl _, id⟩, rfl, rfl⟩
  have hboth := hmod.trans (hpace _)
  simpa [State.put] using hboth

theorem told {x y : Slot} : IntakeWork i s (s.told i l x y) := by
  unfold State.told
  split
  · exact refl i s
  · exact post

theorem put_told {y : Slot} {live : Counters} {pace : List EthernetFrame} {x : Slot}
    (hslot : (s.slot i l).Kept (l = (s.scr i).intake.selection) y)
    (hlive : live.clipBlocks = (s.scr i).live.clipBlocks) :
    IntakeWork i s ((s.put i { s.scr i with intake := (s.scr i).intake.setSlot l y, live := live } pace).told i l x y) :=
  (putIntake (Intake.Kept.setSlot hslot) hlive).trans told

theorem expects_filling : SlotState.filling.expects := ⟨fun h => (nomatch h), fun h => (nomatch h)⟩

theorem beginFill {b : Block} {source : Mac} (hstate : (s.slot i l).state = .waiting ∨ (s.slot i l).state = .lost) :
    IntakeWork i s (s.beginFill i l b source) := by
  rw [State.beginFill_eq]
  dsimp only
  refine put_told ?_ ?_
  · refine ⟨rfl, fun h => (nomatch h), fun h => .inr ⟨h, ?_⟩, fun _ => Slot.bufferInv_of_one expects_filling rfl rfl⟩
    rcases hstate with h | h <;> simp [h]
  · rfl

theorem resync {b : Block} : IntakeWork i s (s.resync i l b) := by
  rw [State.resync_eq]
  dsimp only
  refine put_told ?_ ?_
  · exact ⟨rfl, fun h => (nomatch h), fun h => (nomatch h), fun _ => Slot.bufferInv_of_one expects_filling rfl rfl⟩
  · rfl

theorem afterInsertion : IntakeWork i s (s.afterInsertion i l) := by
  unfold State.afterInsertion
  dsimp only
  split
  next hstate =>
    split
    · exact enterReady (.inr (by simp [hstate])) (by simp [hstate, SlotState.expects])
    · exact refl i s
  next hstate =>
    split
    · split
      next hnamed =>
        exact enterSlotState (fun _ => hnamed.symm) (fun _ _ => rfl) (by simp [hstate, SlotState.expects])
      next => exact enterReady (.inr (by simp [hstate])) (by simp [hstate, SlotState.expects])
    · exact refl i s
  next hstate => exact slide (by simp [hstate, SlotState.expects])
  next hstate => exact considerHold hstate
  next => exact refl i s

theorem insert {b : Block} (hexpects : (s.slot i l).state.expects) (hnear : seqDistance b.seq (s.slot i l).next < 64)
    (hnew : ∀ c ∈ (s.slot i l).buffer, c.seq ≠ b.seq) : IntakeWork i s (s.insert i l b) := by
  unfold State.insert
  refine (modSlot ⟨rfl, .inl, fun h => ?_, fun h => h.insert hexpects hnear hnew⟩).trans ((modLive rfl).trans afterInsertion)
  dsimp only at h ⊢
  exact (Classical.em _).imp_right fun hne => ⟨h, hne⟩

theorem place {b : Block} (hexpects : (s.slot i l).state.expects) : IntakeWork i s (s.place i l b) := by
  unfold State.place
  dsimp only
  split
  · exact modLive rfl
  · split
    · exact resync
    · split
      · exact modLive rfl
      next hnear hnew =>
        refine insert hexpects (Nat.lt_of_not_le hnear) fun c hc => ?_
        simp only [List.any_eq_true, decide_eq_true_eq, not_exists, not_and] at hnew
        exact hnew c hc

theorem arrive {b : Block} {source : Mac} : IntakeWork i s (s.arrive i l b source) := by
  unfold State.arrive
  split
  next => exact refl i s
  next hstate => exact beginFill (.inl hstate)
  next hstate => exact beginFill (.inr hstate)
  next hstate => exact place (by simp [hstate, SlotState.expects])
  next hstate => exact place (by simp [hstate, SlotState.expects])
  next hstate => exact place (by simp [hstate, SlotState.expects])
  next hstate => exact place (by simp [hstate, SlotState.expects])

/-! ### The take (R17 to R22) -/

theorem conceal : IntakeWork i s (s.conceal i).1 := by
  unfold State.conceal
  dsimp only
  refine trans (t := s.modIntake i fun k => { k with followingReal := false }) ?_ ?_
  rotate_left
  · refine modLive ?_
    rfl
  exact modIntake (Intake.Kept.of_slots rfl rfl rfl)

theorem playOldest {b : Block} {rest : List Block} (hbuffer : (s.slot i l).buffer = b :: rest)
    (hexpects : (s.slot i l).state.expects) : IntakeWork i s (s.playOldest i l b) := by
  unfold State.playOldest
  refine modIntake (Intake.Kept.trans (Intake.Kept.setSlot (l := l) (y := { (s.slot i l) with
    buffer := (s.slot i l).buffer.tail, expected := some (b.seq + 1) }) ⟨rfl, .inl, fun h => ?_, fun h => ?_⟩)
    (Intake.Kept.of_slots rfl rfl rfl))
  · dsimp only at h ⊢
    exact (Classical.em _).imp_right fun hne => ⟨h, hne⟩
  · exact h.give hexpects hbuffer rfl rfl (by simp [hbuffer])

theorem stageSource : IntakeWork i s (s.stageSource i l) := modIntake (Intake.Kept.of_slots rfl rfl rfl)

theorem promoteNamed : IntakeWork i s (s.promoteNamed i) := by
  unfold State.promoteNamed
  dsimp only
  split
  next hready => exact enterSlotState (fun _ => rfl) (fun _ _ => rfl) (by simp [hready, SlotState.expects])
  next => exact refl i s

/-- A new selection, where no slot plays that it does not name. -/
theorem modSelection {f : Intake → Intake} (ha : (f (s.scr i).intake).slotA = (s.scr i).intake.slotA)
    (hb : (f (s.scr i).intake).slotB = (s.scr i).intake.slotB)
    (hnone : ((s.scr i).intake.slot (s.scr i).intake.selection).state ≠ .playing) : IntakeWork i s (s.modIntake i f) := by
  have hslot (m : Letter) : (f (s.scr i).intake).slot m = (s.scr i).intake.slot m := by cases m <;> assumption
  refine modIntake ⟨fun h m => ?_, fun m => by rw [hslot], fun m => by rw [hslot]; exact id⟩
  rw [hslot]
  exact ⟨fun hplay => absurd ((h m).1 hplay ▸ hplay) hnone, (h m).2⟩

theorem applyStaged : IntakeWork i s (s.applyStaged i) := by
  by_cases hstaged : (s.scr i).intake.staged = (s.scr i).intake.selection
  · exact of_eq (if_pos hstaged)
  · rw [State.applyStaged_eq hstaged]
    dsimp only
    refine trans ?_ told
    exact putIntake Intake.Kept.dropped rfl

/-- Slot B takes over from the slot A that is starved (R22). -/
theorem failover {b : Block} {rest : List Block} (hdue : (s.scr i).intake.failoverDue = true)
    (hbuffer : (s.scr i).intake.slotB.buffer = b :: rest) : IntakeWork i s (s.failover i b).1 := by
  rw [State.failover_eq]
  dsimp only
  refine trans (trans ?_ post) told
  exact putIntake (Intake.Kept.failedOver hdue hbuffer) rfl

theorem starve (hplay : (s.slot i l).state = .playing) : IntakeWork i s (s.starve i l) := by
  rw [State.starve_eq]
  dsimp only
  refine put_told ⟨rfl, fun h => (nomatch h), fun h => (nomatch h), fun h => ?_⟩ rfl
  exact h.congr rfl rfl (by simp [hplay, SlotState.expects])

theorem starvedAdvance : IntakeWork i s (s.starvedAdvance i l) := by
  unfold State.starvedAdvance
  dsimp only
  split
  next hstate =>
    have hexpects : (s.slot i l).state.expects := by simp [hstate, SlotState.expects]
    have hhold (h : (s.slot i l).holding = true) :
        (s.slot i l).state = .playing ∨ ((s.slot i l).holding = true ∧ (s.slot i l).state ≠ .playing) :=
      .inr ⟨h, by simp [hstate]⟩
    split
    next b rest hbuffer =>
      split
      next hdue =>
        refine trans ?_ (modLive rfl)
        exact modSlot ⟨rfl, .inl, hhold, fun h => h.give hexpects hbuffer rfl (by simp [hdue]) rfl⟩
      next hgap =>
        refine modSlot ⟨rfl, .inl, hhold, fun h => h.skip hexpects fun c cs hc => ?_⟩
        rw [hbuffer] at hc
        cases hc
        exact hgap
    next hbuffer =>
      refine modSlot ⟨rfl, .inl, hhold, fun h => h.skip hexpects fun c cs hc => ?_⟩
      rw [hbuffer] at hc
      cases hc
  next => exact refl i s

theorem supply : IntakeWork i s (s.supply i).1 := by
  unfold State.supply
  dsimp only
  split
  next hdue hbuffer => exact failover hdue hbuffer
  next => exact starvedAdvance.trans conceal

theorem takePlaying (hplay : (s.slot i l).state = .playing) : IntakeWork i s (s.takePlaying i l).1 := by
  have hexpects : (s.slot i l).state.expects := by simp [hplay, SlotState.expects]
  unfold State.takePlaying
  dsimp only
  split
  next hbuffer =>
    exact (starve hplay).trans supply
  next b rest hbuffer =>
    split
    · exact (playOldest hbuffer hexpects).trans considerGo
    next hgap =>
      refine conceal.trans (trans ?_ considerGo)
      have hslot : (s.conceal i).1.slot i l = s.slot i l := by
        simp only [State.conceal, State.modIntake_eq_put, State.modLive_eq_put, State.scr_put_same, State.put_put,
          State.slot_put_same]
        cases l <;> rfl
      refine modSlot ?_
      rw [hslot]
      refine ⟨rfl, .inl, fun _ => .inl hplay, fun h => h.skip hexpects fun c cs hc => ?_⟩
      rw [hbuffer] at hc
      cases hc
      exact hgap

theorem take : IntakeWork i s (s.take i).1 := by
  unfold State.take
  dsimp only
  refine applyStaged.trans (promoteNamed.trans ?_)
  split
  next hplay => exact takePlaying hplay
  next => exact supply

end IntakeWork

end Sys2Proof.Machine
end

section
/-! The requests of the intake and the placing of a packet in the rules' terms (sections 1.2 to 1.4). -/

namespace Sys2Proof.Machine

section
variable {s : State} {i : ScreenIx} {l : Letter}

/-- A slot put back as it is, with no pace message, changes nothing. -/
theorem State.put_unchanged {y : Slot} {pace : List EthernetFrame} (hy : y = s.slot i l) (hpace : pace = []) :
    s.put i { s.scr i with intake := (s.scr i).intake.setSlot l y } pace = s := by
  subst hy hpace
  have hslot : (s.scr i).intake.setSlot l (s.slot i l) = (s.scr i).intake := Intake.setSlot_slot
  rw [hslot]
  exact State.put_self

/-! ### Pacing (R14, R15) -/

theorem State.considerGo_eq :
    s.considerGo i l =
      let k := (s.scr i).intake
      let x := s.slot i l
      s.put i { s.scr i with intake := k.setSlot l { x with holding := x.holding && decide (k.low < x.buffer.length) } }
        (if x.buffer.length ≤ k.low then x.paceGo else []) := by
  unfold State.considerGo
  dsimp only
  by_cases h : (s.slot i l).fill ≤ (s.scr i).intake.low <;> have hfill := h <;> rw [Slot.fill] at hfill
  · rw [if_pos h, State.endHolding_eq_put]
    simp [Nat.not_lt.mpr hfill, hfill]
  · rw [if_neg h, if_neg hfill]
    refine (State.put_unchanged ?_ rfl).symm
    rw [decide_eq_true (Nat.lt_of_not_le hfill), Bool.and_true]

theorem State.considerHold_eq :
    s.considerHold i l =
      let k := (s.scr i).intake
      let x := s.slot i l
      let full := k.pacing && decide (k.high ≤ x.buffer.length)
      s.put i { s.scr i with intake := k.setSlot l { x with holding := x.holding || full } }
        (if x.holding = false ∧ full = true then x.paceHold (x.buffer.length - k.start) else []) := by
  unfold State.considerHold
  dsimp only
  by_cases h : (s.scr i).intake.high ≤ (s.slot i l).fill ∧ (s.scr i).intake.pacing = true ∧
      ¬ (s.slot i l).holding = true
  · rw [if_pos h, State.sendPace_hold]
    rw [Slot.fill] at h
    obtain ⟨hhigh, hpacing, hnot⟩ := h
    simp only [Bool.not_eq_true] at hnot
    simp only [hhigh, hpacing, hnot, decide_true, Bool.and_self, Bool.false_or, and_self, if_true]
    rfl
  · rw [if_neg h]
    rw [Slot.fill] at h
    refine (State.put_unchanged ?_ ?_).symm
    · have hfull : ((s.slot i l).holding || ((s.scr i).intake.pacing &&
          decide ((s.scr i).intake.high ≤ (s.slot i l).buffer.length))) = (s.slot i l).holding := by
        cases hx : (s.slot i l).holding
        · simpa [hx, and_comm] using h
        · rfl
      rw [hfull]
    · refine if_neg fun ⟨hnot, hfull⟩ => h ?_
      rw [Bool.and_eq_true, decide_eq_true_eq] at hfull
      exact ⟨hfull.2, hfull.1, by simp [hnot]⟩

/-! ### Agreement with new settings (R16) -/

/-- A slot slid down to the start level and READY (R13). -/
def Slot.readied (start : Nat) (x : Slot) : Slot := { Slot.slide start x with state := .ready }

/-- A slot after the first half of its agreement with the settings: its state and its blocks (R16). -/
def Intake.settled (k : Intake) (l : Letter) : Slot :=
  let x := k.slot l
  match x.state with
  | .filling => if k.start ≤ x.buffer.length then x.readied k.start else x
  | .ready => if x.buffer.length < k.start then { x with state := .filling } else Slot.slide k.start x
  | .starved =>
    if k.start ≤ x.buffer.length then
      if k.selection = l then { x with state := .playing } else x.readied k.start
    else x
  | _ => x

/-- A PLAYING slot is holding as the watermarks and pacing ask (R14, R16). -/
def Intake.holds (k : Intake) (x : Slot) : Bool :=
  k.pacing && if x.holding then decide (k.low < x.buffer.length) else decide (k.high ≤ x.buffer.length)

@[simp] theorem Intake.holds_setSlot {k : Intake} {x y : Slot} : (k.setSlot l y).holds x = k.holds x := by
  cases l <;> rfl

/-- A slot in agreement with the settings (R16). -/
def Intake.agreed (k : Intake) (l : Letter) : Slot :=
  let y := k.settled l
  if y.state = .playing then { y with holding := k.holds y } else y

/-- The pace message of a slot's agreement (R16). -/
def Intake.agreedPace (k : Intake) (l : Letter) : List EthernetFrame :=
  let y := k.settled l
  if y.state = .playing then
    if y.holding then if k.holds y then [] else y.paceGo
    else if k.holds y then y.paceHold (y.buffer.length - k.start) else []
  else []

/-- The second half of the agreement. -/
theorem State.agreePlaying_eq :
    (if (s.slot i l).holding = true then
        if (s.scr i).intake.pacing = true then s.considerGo i l else s.endHolding i l
      else s.considerHold i l) =
      let k := (s.scr i).intake
      let x := s.slot i l
      s.put i { s.scr i with intake := k.setSlot l { x with holding := k.holds x } }
        (if x.holding then if k.holds x then [] else x.paceGo
        else if k.holds x then x.paceHold (x.buffer.length - k.start) else []) := by
  dsimp only [Intake.holds]
  by_cases hholding : (s.slot i l).holding = true
  · by_cases hpacing : (s.scr i).intake.pacing = true
    · rw [if_pos hholding, if_pos hpacing, State.considerGo_eq]
      by_cases hlow : (s.scr i).intake.low < (s.slot i l).buffer.length
      · simp [hholding, hpacing, hlow, Nat.not_le.mpr hlow]
      · simp [hholding, hpacing, hlow, Nat.le_of_not_lt hlow]
    · simp [hholding, hpacing, State.endHolding_eq_put]
  · rw [Bool.not_eq_true] at hholding
    simp [hholding, State.considerHold_eq]

/-- The first half of the agreement: the slot's state and its blocks. -/
def State.settle (s : State) (i : ScreenIx) (l : Letter) : State :=
  let k := (s.scr i).intake
  let x := s.slot i l
  match x.state with
  | .filling => if k.start ≤ x.fill then s.enterReady i l else s
  | .ready => if x.fill < k.start then s.enterSlotState i l .filling else s.modSlot i l (Slot.slide k.start)
  | .starved =>
    if k.start ≤ x.fill then
      if k.selection = l then s.enterSlotState i l .playing else s.enterReady i l
    else s
  | _ => s

theorem State.agree_eq_settle :
    s.agree i l =
      if ((s.settle i l).slot i l).state = .playing then
        if ((s.settle i l).slot i l).holding = true then
          if (s.scr i).intake.pacing = true then (s.settle i l).considerGo i l else (s.settle i l).endHolding i l
        else (s.settle i l).considerHold i l
      else s.settle i l := rfl

theorem State.settle_eq :
    s.settle i l =
      let y := (s.scr i).intake.settled l
      (s.put i { s.scr i with intake := (s.scr i).intake.setSlot l y } []).told i l (s.slot i l) y := by
  have hsame : s = (s.put i { s.scr i with intake := (s.scr i).intake.setSlot l (s.slot i l) } []).told i l
        (s.slot i l) (s.slot i l) := by
    rw [State.told_same rfl, State.put_unchanged rfl rfl]
  have hslot : (s.scr i).intake.slot l = s.slot i l := rfl
  have hfill : (s.slot i l).fill = (s.slot i l).buffer.length := rfl
  have hready := State.enterReady_eq (s := s) (i := i) (l := l)
  unfold State.settle Intake.settled
  simp only [hslot, hfill]
  cases hstate : (s.slot i l).state
  case filling =>
    simp only
    split
    · exact hready
    · exact hsame
  case ready =>
    simp only
    split
    · exact State.enterSlotState_eq
    · rw [State.told_same (by simp), State.modSlot_eq_put]
  case starved =>
    simp only
    split
    · split
      · exact State.enterSlotState_eq
      · exact hready
    · exact hsame
  all_goals exact hsame

theorem State.agree_eq :
    s.agree i l =
      let k := (s.scr i).intake
      (s.put i { s.scr i with intake := k.setSlot l (k.agreed l) } (k.agreedPace l)).told i l (s.slot i l)
        (k.agreed l) := by
  have hslot : (s.settle i l).slot i l = (s.scr i).intake.settled l := by rw [State.settle_eq]; simp
  rw [State.agree_eq_settle, hslot]
  by_cases hplay : ((s.scr i).intake.settled l).state = .playing
  · have hpacing : (s.scr i).intake.pacing = ((s.settle i l).scr i).intake.pacing := by rw [State.settle_eq]; simp
    rw [if_pos hplay, ← hslot, hpacing, State.agreePlaying_eq, hslot, State.settle_eq]
    simp only [State.put_told, State.scr_told, State.scr_put_same, State.put_put, Intake.setSlot_setSlot,
      Intake.setSlot_start, Intake.holds_setSlot, List.nil_append, Intake.agreed, Intake.agreedPace, hplay, if_true]
    exact State.told_congr rfl rfl rfl hplay rfl
  · rw [if_neg hplay, State.settle_eq]
    simp only [Intake.agreed, Intake.agreedPace, hplay, if_false]

/-! ### A block in the window (R10, R12 to R14) -/

/-- A slot with a block more, its state and its pacing examined again (R12 to R14). -/
def Intake.reexamined (k : Intake) (x : Slot) (l : Letter) : Slot :=
  match x.state with
  | .filling => if k.start ≤ x.buffer.length then x.readied k.start else x
  | .starved =>
    if k.start ≤ x.buffer.length then
      if k.selection = l then { x with state := .playing } else x.readied k.start
    else x
  | .ready => Slot.slide k.start x
  | .playing => { x with holding := x.holding || k.pacing && decide (k.high ≤ x.buffer.length) }
  | _ => x

/-- The PACE_HOLD it sends (R14). -/
def Intake.reexaminedPace (k : Intake) (x : Slot) : List EthernetFrame :=
  if x.state = .playing ∧ x.holding = false ∧ (k.pacing && decide (k.high ≤ x.buffer.length)) = true then
    x.paceHold (x.buffer.length - k.start)
  else []

@[simp] theorem Intake.reexamined_setSlot {k : Intake} {x y : Slot} :
    (k.setSlot l y).reexamined x l = k.reexamined x l := by
  cases l <;> rfl

@[simp] theorem Intake.reexaminedPace_setSlot {k : Intake} {x y : Slot} :
    (k.setSlot l y).reexaminedPace x = k.reexaminedPace x := by
  cases l <;> rfl

theorem State.afterInsertion_eq :
    s.afterInsertion i l =
      let k := (s.scr i).intake
      let x := s.slot i l
      (s.put i { s.scr i with intake := k.setSlot l (k.reexamined x l) } (k.reexaminedPace x)).told i l x
        (k.reexamined x l) := by
  have hsame : s = (s.put i { s.scr i with intake := (s.scr i).intake.setSlot l (s.slot i l) } []).told i l
        (s.slot i l) (s.slot i l) := by
    rw [State.told_same rfl, State.put_unchanged rfl rfl]
  have hfill : (s.slot i l).fill = (s.slot i l).buffer.length := rfl
  have hready := State.enterReady_eq (s := s) (i := i) (l := l)
  have hpace (h : (s.slot i l).state ≠ .playing) : (s.scr i).intake.reexaminedPace (s.slot i l) = [] :=
    if_neg fun hall => h hall.1
  unfold State.afterInsertion Intake.reexamined
  cases hstate : (s.slot i l).state
  case filling =>
    simp only [hstate, hfill, hpace (by simp [hstate])]
    split
    · exact hready
    · exact hsame
  case ready =>
    simp only [hstate, hpace (by simp [hstate])]
    rw [State.told_same (by simp), State.modSlot_eq_put]
  case starved =>
    simp only [hstate, hfill, hpace (by simp [hstate])]
    split
    · split
      · exact State.enterSlotState_eq
      · exact hready
    · exact hsame
  case playing =>
    simp only [hstate]
    rw [State.told_same (by simp [hstate]), State.considerHold_eq]
    simp [Intake.reexaminedPace, hstate]
  all_goals
    simp only [hstate, hpace (by simp [hstate])]
    exact hsame

/-- The slot a block of the window has joined (R10). -/
def Slot.heard (x : Slot) (b : Block) (now : PartTime) : Slot :=
  { x with buffer := insertBlock x.next b x.buffer, lastAccepted := some now }

theorem State.insert_eq {b : Block} :
    s.insert i l b =
      let k := (s.scr i).intake
      let x := (s.slot i l).heard b s.time
      let live := (s.scr i).live
      (s.put i
        { s.scr i with
          intake := k.setSlot l (k.reexamined x l), live := { live with packetsAccepted := bumped live.packetsAccepted } }
        (k.reexaminedPace x)).told i l x (k.reexamined x l) := by
  unfold State.insert
  simp only [State.afterInsertion_eq, State.modSlot_eq_put, State.modLive_eq_put, State.scr_put_same, State.put_put,
    State.slot_put_same, Intake.slot_setSlot_same, Intake.setSlot_setSlot, List.nil_append,
    Intake.reexamined_setSlot, Intake.reexaminedPace_setSlot]
  rfl

/-! ### The laws under these changes -/

theorem Slot.BufferInv.readied {x : Slot} {start : Nat} (h : x.BufferInv) (hstate : x.state.expects) :
    (x.readied start).BufferInv :=
  (h.slide hstate).congr rfl rfl (iff_of_true (by simp [Slot.readied, SlotState.expects]) (by rw [Slot.slide_state]; exact hstate))

theorem Slot.Kept.refl (named : Prop) (x : Slot) : x.Kept named x :=
  ⟨rfl, .inl, fun h => (Classical.em (x.state = .playing)).imp_right fun hne => ⟨h, hne⟩, id⟩

theorem Slot.Kept.readied {named : Prop} {x : Slot} {start : Nat} (hexpects : x.state.expects)
    (hnot : x.state ≠ .playing) : x.Kept named (x.readied start) :=
  ⟨Slot.slide_streamId, fun h => (nomatch h), fun h => .inr ⟨Slot.slide_holding (start := start) (x := x) ▸ h, hnot⟩, fun h => h.readied hexpects⟩

theorem Intake.settled_kept {k : Intake} {l : Letter} : (k.slot l).Kept (l = k.selection) (k.settled l) := by
  unfold Intake.settled
  cases hstate : (k.slot l).state
  case filling =>
    simp only [hstate]
    split
    · exact .readied (by simp [hstate, SlotState.expects]) (by simp [hstate])
    · exact .refl _ _
  case ready =>
    simp only [hstate]
    split
    · exact ⟨rfl, fun h => (nomatch h), fun h => .inr ⟨h, by simp [hstate]⟩,
        fun h => h.congr rfl rfl (by simp [hstate, SlotState.expects])⟩
    · exact ⟨Slot.slide_streamId, fun h => .inl (Slot.slide_state ▸ h),
        fun h => .inr ⟨Slot.slide_holding ▸ h, by simp [hstate]⟩, fun h => h.slide (by simp [hstate, SlotState.expects])⟩
  case starved =>
    simp only [hstate]
    split
    · split
      next hnamed =>
        exact ⟨rfl, fun _ => .inr hnamed.symm, fun _ => .inl rfl,
          fun h => h.congr rfl rfl (by simp [hstate, SlotState.expects])⟩
      · exact .readied (by simp [hstate, SlotState.expects]) (by simp [hstate])
    · exact .refl _ _
  all_goals
    simp only [hstate]
    exact .refl _ _

theorem Intake.agreed_kept {k : Intake} {l : Letter} : (k.slot l).Kept (l = k.selection) (k.agreed l) := by
  have hkept := Intake.settled_kept (k := k) (l := l)
  unfold Intake.agreed
  dsimp only
  split
  next hplay => exact ⟨hkept.streamId, hkept.play, fun _ => .inl hplay, fun h => (hkept.buffer h).congr rfl rfl Iff.rfl⟩
  next => exact hkept

theorem IntakeWork.agree : IntakeWork i s (s.agree i l) := by
  rw [State.agree_eq]
  exact IntakeWork.put_told Intake.agreed_kept rfl

end

end Sys2Proof.Machine
end

section
/-! The clock's moves and commands (sections 7.2 and 7.3): their law and their readings. -/

namespace Sys2Proof.Machine

/-! ### The move of a boundary keeps the position at or below the length (R130) -/

theorem Clock.inv_of_le {c c' : Clock} (hlength : c'.length = c.length) (hle : c.length ≠ 0 → c'.position ≤ c.length) :
    c'.Inv := fun h => by
  rw [hlength] at h ⊢
  exact hle h

theorem Clock.Inv.congr {c c' : Clock} (h : c.Inv) (hlength : c'.length = c.length)
    (hposition : c'.position = c.position) : c'.Inv :=
  Clock.inv_of_le hlength fun hne => hposition ▸ h hne

theorem Clock.endPoint_of_length {c : Clock} (h : c.length ≠ 0) : c.endPoint = c.length := if_neg h

theorem Clock.Inv.advance {c : Clock} (h : c.Inv) : c.advance.Inv := by
  unfold Clock.advance
  split
  next hlt =>
    refine Clock.inv_of_le (c := c) rfl fun hne => ?_
    rw [Clock.endPoint_of_length hne] at hlt
    exact hlt.2
  next => exact h

theorem Clock.Inv.endTest {c : Clock} {resumed : Bool} (h : c.Inv) : (c.endTest resumed).clock.Inv := by
  unfold Clock.endTest
  split
  · exact h.congr rfl rfl
  · exact h

theorem Clock.clampPosition_le {c : Clock} {p : Nat} (h : c.length ≠ 0) : c.clampPosition p ≤ c.length := by
  rw [Clock.clampPosition, if_neg h]
  exact Nat.min_le_right _ _

theorem Clock.Inv.moveRaw {c : Clock} {position : Option Nat} (h : c.Inv) : (c.moveRaw position).clock.Inv := by
  unfold Clock.moveRaw
  split
  next => exact h
  next =>
    unfold Clock.moveFree
    dsimp only
    split
    · exact h.advance
    · exact h.advance.endTest
  next => exact h
  next =>
    exact Clock.Inv.endTest (Clock.inv_of_le (c := c) rfl fun hne => Clock.clampPosition_le hne)
  next =>
    unfold Clock.flywheel
    split
    · exact Clock.Inv.endTest (h.advance.congr rfl rfl)
    · exact h.congr rfl rfl
  next => exact h

theorem Clock.Inv.move {c : Clock} {position : Option Nat} (h : c.Inv) : (c.move position).1.clock.Inv := by
  unfold Clock.move
  dsimp only
  split
  · exact fun _ => Nat.zero_le _
  · exact h.moveRaw.congr rfl rfl

theorem Clock.after_reload {c : Clock} {p : Nat} :
    c.after (.reload p) =
      if c.clampPosition p = c.position then c else { c with position := c.clampPosition p, mark := true } := rfl

theorem Clock.Inv.after {c : Clock} {k : ClockCommand} (h : c.Inv) : (c.after k).Inv := by
  cases k with
  | reload p =>
    rw [Clock.after_reload]
    split
    · exact h
    · exact Clock.inv_of_le (c := c) rfl Clock.clampPosition_le
  | start => cases hstate : c.state <;> simp only [Clock.after, hstate] <;> exact h.congr rfl rfl
  | stop => exact h.congr rfl rfl
  | hold => cases hstate : c.state <;> simp only [Clock.after, hstate] <;> exact h.congr rfl rfl

/-! ### A command in the rule's terms (R134, R135, R174) -/

section
variable {s : State} {i : ScreenIx} {k : ClockCommand} {cause : ClockCause}

theorem State.modClock_eq_put {f : Clock → Clock} :
    s.modClock i f = s.put i { s.scr i with clock := f (s.scr i).clock } [] := State.modScreen_eq_put

theorem State.setClockState_eq {new : ClockState} :
    s.setClockState i new cause =
      let c := (s.scr i).clock
      (s.put i { s.scr i with clock := { c with state := new } } []).postAt .clockState (some i) (some c.position)
        ([BitVec.ofNat 8 c.state.code, BitVec.ofNat 8 new.code] ++ cause.bytes) := by
  unfold State.setClockState State.postClock
  rw [State.modClock_eq_put, State.post_eq_postAt, State.scr_put_same, List.append_nil]
  rfl

/-- The record of a command that changes the clock, and what its sub-kind adds to the detail (R135). -/
def ClockCommand.event : ClockCommand → EventType
  | .reload _ => .clockReload
  | _ => .clockState

def ClockCommand.extra : ClockCommand → Clock → List Byte
  | .reload _, c => u32 c.position
  | _, _ => []

/-- A command that changes the clock, in the rule's terms. -/
theorem State.commanded_of_ne {bytes : List Byte} (h : (s.scr i).clock.after k ≠ (s.scr i).clock) :
    s.commanded i k bytes =
      let c := (s.scr i).clock
      let c' := c.after k
      let posted := (s.put i { s.scr i with clock := c' } []).postAt k.event (some i) (some c'.position)
        ([BitVec.ofNat 8 c.state.code, BitVec.ofNat 8 c'.state.code] ++ bytes ++ k.extra c)
      if c.state ≠ .stopped ∧ c'.state = .stopped then posted.applyStopPolicy i else posted := by
  have hput : ({ s with
      screens := s.screens.set i { s.scr i with clock := (s.scr i).clock.after k } } : State) =
        s.put i { s.scr i with clock := (s.scr i).clock.after k } [] := by simp [State.put]
  have hstop (u : State) (hu : u.lines = s.lines) :
      ({ u with lines := s.lines.map (Line.stopFor i) } : State) = u.applyStopPolicy i := by
    rw [State.applyStopPolicy, hu]
  unfold State.commanded
  cases k <;>
    · simp only [hput, ClockCommand.event, ClockCommand.extra, List.append_nil] at h ⊢
      rw [if_neg h, hstop]
      rw [State.postAt_lines]
      rfl

theorem State.commanded_of_eq {bytes : List Byte} (h : (s.scr i).clock.after k = (s.scr i).clock) :
    s.commanded i k bytes = s := by
  unfold State.commanded
  exact if_pos h

theorem Clock.after_ne {c : Clock} (h : (c.after k).state ≠ c.state) : c.after k ≠ c := fun heq => h (by rw [heq])

theorem State.clockCommand_eq : s.clockCommand i k cause = s.commanded i k cause.bytes := by
  obtain ⟨hstart, hstop, hhold, hreload⟩ := State.clockCommand_idle (s := s) (i := i) (k := cause)
  cases k with
  | start =>
    cases hstate : (s.scr i).clock.state with
    | running => rw [hstart hstate, State.commanded_of_eq (by simp [Clock.after, hstate])]
    | stopped | held =>
      rw [State.commanded_of_ne (Clock.after_ne (by simp [Clock.after, hstate]))]
      simp [State.clockCommand, hstate, State.modClock_eq_put, State.setClockState_eq, Clock.after, ClockCommand.event,
        ClockCommand.extra]
  | stop =>
    cases hstate : (s.scr i).clock.state with
    | stopped => rw [hstop hstate, State.commanded_of_eq (by simp [Clock.after, ← hstate])]
    | running | held =>
      rw [State.commanded_of_ne (Clock.after_ne (by simp [Clock.after, hstate]))]
      simp [State.clockCommand, hstate, State.setClockState_eq, Clock.after, ClockCommand.event, ClockCommand.extra]
  | hold =>
    cases hstate : (s.scr i).clock.state with
    | running =>
      rw [State.commanded_of_ne (Clock.after_ne (by simp [Clock.after, hstate]))]
      simp [State.clockCommand, hstate, State.setClockState_eq, Clock.after, ClockCommand.event, ClockCommand.extra]
    | stopped | held => rw [hhold (by simp [hstate]), State.commanded_of_eq (by simp [Clock.after, hstate])]
  | reload p =>
    by_cases hp : (s.scr i).clock.clampPosition p = (s.scr i).clock.position
    · rw [hreload p hp, State.commanded_of_eq (by rw [Clock.after_reload, if_pos hp])]
    · have hafter : (s.scr i).clock.after (.reload p) =
          { (s.scr i).clock with position := (s.scr i).clock.clampPosition p, mark := true } := by
        rw [Clock.after_reload, if_neg hp]
      rw [State.commanded_of_ne (by rw [hafter]; exact fun h => hp (congrArg Clock.position h))]
      simp [State.clockCommand, hp, hafter, State.modClock_eq_put, State.postClock, State.post_eq_postAt, u8, beBytes,
        ClockCommand.event, ClockCommand.extra]

end

/-! ### The move and the commands as work of the screen -/

namespace Work

variable {s : State} {i : ScreenIx}

theorem moveClock {t : Taken} : Work i s (s.moveClock i t).1 := by
  unfold State.moveClock
  dsimp only
  have hmoved := modClock (s := s) (i := i) (f := fun _ => ((s.scr i).clock.move t.clockPosition).1.clock) fun h => h.move
  generalize s.modClock i (fun _ => ((s.scr i).clock.move t.clockPosition).1.clock) = u at hmoved ⊢
  have hresumed : Work i s (if ((s.scr i).clock.move t.clockPosition).1.resumed = true then
      u.postClock i .clockState .held .running .chase [] else u) := by
    split
    · exact hmoved.trans post
    · exact hmoved
  generalize (if ((s.scr i).clock.move t.clockPosition).1.resumed = true then
      u.postClock i .clockState .held .running .chase [] else u) = v at hresumed ⊢
  split
  · exact hresumed
  · exact hresumed.trans (post.trans applyStopPolicy)
  · exact hresumed.trans post
  · exact hresumed.trans post

theorem clockCommand {k : ClockCommand} {cause : ClockCause} : Work i s (s.clockCommand i k cause) := by
  rw [State.clockCommand_eq]
  by_cases h : (s.scr i).clock.after k = (s.scr i).clock
  · exact of_eq (State.commanded_of_eq h)
  · have hmoved := modClock (s := s) (i := i) (f := Clock.after k) fun h => h.after
    rw [State.commanded_of_ne h]
    rw [State.modClock_eq_put] at hmoved
    dsimp only
    split
    · exact hmoved.trans (postAt.trans applyStopPolicy)
    · exact hmoved.trans postAt

end Work

end Sys2Proof.Machine
end

section
/-! The gain stage's, the decoder's and the equaliser's work (chapters 2 to 4): their laws, and their stages as work of the
screen. -/

namespace Sys2Proof.Machine

/-! ### The fader under its limit (R50 to R52) -/

theorem faderGain_mono {p q : Nat} (h : p ≤ q) : faderGain p ≤ faderGain q := by
  unfold faderGain
  split <;> split <;> (try split) <;> (try split) <;> omega

theorem Ramp.aim_target {r : Ramp} {target : Int} {time : Nat} : (r.aim target time).target = target := by
  unfold Ramp.aim
  split <;> rfl

theorem Ramp.aim_current_le {r : Ramp} {target cap : Int} {time : Nat} (hcurrent : r.current ≤ cap) (htarget : target ≤ cap) :
    (r.aim target time).current ≤ cap := by
  unfold Ramp.aim
  split
  · exact htarget
  · exact hcurrent

theorem Ramp.step_current_le {r : Ramp} {cap : Int} (hcurrent : r.current ≤ cap) (htarget : r.target ≤ cap) :
    r.step.current ≤ cap := by
  have hbetween := stepToward_between (c := r.current) (target := r.target) (rate := r.rate)
  show stepToward r.current r.target r.rate ≤ cap
  omega

theorem Gain.Inv.setFader {g : Gain} {position time : Nat} (h : g.Inv) : (g.setFader position time).Inv := by
  obtain ⟨hposition, hlimit, htarget, hcurrent⟩ := h
  refine ⟨Nat.min_le_right _ _, hlimit, Ramp.aim_target, ?_⟩
  exact Ramp.aim_current_le hcurrent (faderGain_mono (Nat.min_le_right _ _))

theorem Gain.Inv.setLimit {g : Gain} {position : Nat} (hmax : position ≤ 100) (h : g.Inv) : (g.setLimit position).Inv := by
  obtain ⟨hposition, hlimit, htarget, hcurrent⟩ := h
  refine ⟨Nat.min_le_right _ _, hmax, ?_, Int.min_le_right _ _⟩
  show (if position < g.faderPosition then faderGain position else g.fader.target) = faderGain (min g.faderPosition position)
  split
  next hlt => rw [Nat.min_eq_right (Nat.le_of_lt hlt)]
  next hge => rw [Nat.min_eq_left (Nat.le_of_not_lt hge), htarget]

theorem Gain.Inv.step {g : Gain} (h : g.Inv) : g.step.Inv := by
  obtain ⟨hposition, hlimit, htarget, hcurrent⟩ := h
  exact ⟨hposition, hlimit, htarget, Ramp.step_current_le hcurrent (htarget ▸ faderGain_mono hposition)⟩

/-! ### Steering (R43) -/

theorem steer_mem {value target : Int} (hvalue : -60 ≤ value ∧ value ≤ 0) (htarget : -60 ≤ target ∧ target ≤ 0) :
    -60 ≤ steer value target ∧ steer value target ≤ 0 := by
  unfold steer
  split
  · omega
  · split <;> omega

theorem centreTarget_mem {d : Int} : -60 ≤ centreTarget d ∧ centreTarget d ≤ 0 := by
  unfold centreTarget
  split <;> omega

theorem surroundTarget_mem {d : Int} : -60 ≤ surroundTarget d ∧ surroundTarget d ≤ 0 := by
  unfold surroundTarget
  split <;> omega

theorem Decoder.Inv.matrixBlock {d : Decoder} {t : Taken} (h : d.Inv) : (d.matrixBlock t).Inv := by
  obtain ⟨hclow, hchigh, hslow, hshigh⟩ := h
  obtain ⟨h1, h2⟩ := steer_mem ⟨hclow, hchigh⟩ (centreTarget_mem (d := blockDominance t))
  obtain ⟨h3, h4⟩ := steer_mem ⟨hslow, hshigh⟩ (surroundTarget_mem (d := blockDominance t))
  exact ⟨h1, h2, h3, h4⟩

theorem Decoder.inv_changeFormat {d : Decoder} {f : Option Format} : (d.changeFormat f).Inv :=
  ⟨Int.neg_nonpos_of_nonneg (by decide), Int.le_refl 0, Int.neg_nonpos_of_nonneg (by decide), Int.le_refl 0⟩

theorem State.requirement_modEqualiser {s : State} {i : ScreenIx} {f : Equaliser → Equaliser} :
    (s.modEqualiser i f).requirement i = s.requirement i := State.requirement_congr rfl (by simp)

namespace Work

variable {s : State} {i : ScreenIx}

theorem decodeFormat {t : Taken} : Work i s (s.decodeFormat i t) := by
  unfold State.decodeFormat
  dsimp only
  split
  · exact refl i s
  · exact (modDecoder (fun _ => Decoder.inv_changeFormat) rfl rfl rfl).trans post

theorem decode {t : Taken} : Work i s (s.decode i t).1 := by
  unfold State.decode
  dsimp only
  split
  · exact decodeFormat
  · refine trans (t := s.decodeFormat i t) decodeFormat ?_
    exact modDecoder (f := fun d => d.matrixBlock t) (fun h => h.matrixBlock) rfl rfl rfl
  · exact decodeFormat

theorem forceFormat {f : Option Format} : Work i s (s.forceFormat i f) := modDecoder id rfl rfl rfl

/-! ### The equaliser (R73 to R85) -/

theorem equalise {buses : Vector (List Int) 8} : Work i s (s.equalise i buses).1 := by
  rw [State.equalise_eq]
  dsimp only
  refine modEqualiser ?_
  rfl

/-- A change of the equaliser that keeps the pool's law. -/
theorem modEqualiser_of_bands {f : Equaliser → Equaliser}
    (hheld : BandInv s → (s.modEqualiser i f).bandsHeld i ≤ s.bandsHeld i + s.bandsFree)
    (hreserved : (s.modEqualiser i f).reserved i) : Work i s (s.modEqualiser i f) := by
  refine modScreen_of_bands { Screen.Kept.refl (s.scr i) with } fun h => ?_
  refine BandInv.of_screen (i := i) (s := s) rfl (fun j hj => ?_) h (hheld h) hreserved
  rw [State.scr_modScreen_of_ne hj]

theorem aimSwitchTerm {target : Int} : Work i s (s.aimSwitchTerm i target) := modGain id

theorem startCrossfade {t : Target} (hidle : (s.scr i).equaliser.switch = .idle)
    (hfits : s.requirement i t ≤ s.bandsFree) : Work i s (s.startCrossfade i t) := by
  unfold State.startCrossfade
  refine modEqualiser_of_bands (fun _ => ?_) fun h => ?_
  · simp [State.bandsHeld, hidle, State.requirement_modEqualiser]
    omega
  · simp at h

theorem startCut {t : Target} (hidle : (s.scr i).equaliser.switch = .idle)
    (hfits : s.requirement i t ≤ s.bandsFree + s.requirement i (s.scr i).equaliser.active) :
    Work i s (s.startCut i t) := by
  refine trans (modEqualiser_of_bands (fun _ => ?_) fun h => ?_) aimSwitchTerm
  · simp [State.bandsHeld, hidle, State.requirement_modEqualiser]
    omega
  · simp [State.requirement_modEqualiser]
    omega

theorem carryOut {t : Target} (hidle : (s.scr i).equaliser.switch = .idle) :
    Work i s (s.carryOut i t (s.decideIdle i t)) := by
  unfold State.decideIdle
  dsimp only
  split
  · exact refl i s
  · split
    next hfits => exact startCrossfade hidle hfits
    next =>
      split
      next hfits => exact startCut hidle hfits
      next => exact refl i s

theorem makePending {t : Target} : Work i s (s.makePending i t) := by
  unfold State.makePending
  dsimp only
  split
  · exact modEqualiser rfl
  · refine trans ?_ post
    exact modEqualiser rfl

theorem select {t : Target} : Work i s (s.select i t).1 := by
  unfold State.select
  split
  next hidle => exact carryOut hidle
  next => exact makePending

theorem startPending (hidle : (s.scr i).equaliser.switch = .idle) : Work i s (s.startPending i) := by
  unfold State.startPending
  split
  · exact refl i s
  · dsimp only
    refine trans (t := s.modEqualiser i fun e => { e with waiting := none }) (modEqualiser rfl) ?_
    split
    next => exact post
    next => exact carryOut (by simpa using hidle)

theorem crossfadeDone (hfading : (s.scr i).equaliser.switch = .crossfade) : Work i s (s.crossfadeDone i) := by
  unfold State.crossfadeDone
  dsimp only
  refine trans (modEqualiser_of_bands (fun _ => ?_) fun h => ?_) (trans post (startPending ?_))
  · simp [State.bandsHeld, hfading, State.requirement_modEqualiser]
    omega
  · simp at h
  · simp

theorem swapCut (hcut : (s.scr i).equaliser.switch = .cut) (hphase : (s.scr i).equaliser.phase = some .fadeOut) :
    Work i s (s.swapCut i) := by
  unfold State.swapCut
  refine trans (modEqualiser_of_bands (fun hbands => ?_) fun h => ?_) aimSwitchTerm
  · have hreserved := (bandInv_iff.mp hbands).2 i hcut hphase
    simp [State.bandsHeld, hcut, hphase, State.requirement_modEqualiser]
    omega
  · simp

theorem cutDone (hcut : (s.scr i).equaliser.switch = .cut) (hphase : (s.scr i).equaliser.phase = some .fadeIn) :
    Work i s (s.cutDone i) := by
  unfold State.cutDone
  dsimp only
  refine trans (modEqualiser_of_bands (fun _ => ?_) fun h => ?_) (trans post (startPending ?_))
  · simp [State.bandsHeld, hcut, hphase, State.requirement_modEqualiser]
  · simp at h
  · simp

theorem switchProgress : Work i s (s.switchProgress i) := by
  unfold State.switchProgress
  split
  next hends => 
    simp only [Screen.crossfadeEnds, Bool.and_eq_true, decide_eq_true_eq] at hends
    exact crossfadeDone hends.1
  next =>
    split
    next hswaps =>
      simp only [Screen.cutSwaps, Bool.and_eq_true, decide_eq_true_eq] at hswaps
      exact swapCut hswaps.1.1 hswaps.1.2
    next =>
      split
      next hends =>
        simp only [Screen.cutEnds, Bool.and_eq_true, decide_eq_true_eq] at hends
        exact cutDone hends.1.1 hends.1.2
      next => exact refl i s

end Work

end Sys2Proof.Machine
end

section
/-! The cue engine's work (chapter 8), and the boundary as work around the gain stage, the meters and the close. -/

namespace Sys2Proof.Machine

namespace Work

variable {s : State} {i : ScreenIx} {x : CueContext}

/-! ### Actions (R155 to R160) -/

theorem postCue {what : EventType} {extra : List Byte} : Work i s (s.postCue i what x extra) := post

theorem setCueState {number : Nat} {state : CueState} : Work i s (s.setCueState i number state) := by
  refine modCues ?_
  rw [List.map_map]
  refine List.map_congr_left fun e _ => ?_
  simp only [Function.comp]
  split <;> rfl

theorem rearm {p : CueEntry → Bool} : Work i s (s.rearm i p) := by
  refine modCues ?_
  rw [List.map_map]
  refine List.map_congr_left fun e _ => ?_
  simp only [Function.comp]
  split <;> rfl

theorem cueScreen_of_valid {a : CueAction} {l : LineIx} (hline : a.line = some l) (hvalid : s.actionFault i a = none) :
    (s.line l).cueScreen = some i := by
  unfold State.actionFault at hvalid
  split at hvalid
  next => cases hline
  next =>
    rw [hline] at hvalid
    dsimp only at hvalid
    split at hvalid
    next h => exact h
    next => cases hvalid

theorem applyAction {jump : Bool} {a : CueAction} (hvalid : s.actionFault i a = none) :
    Work i s (s.applyAction i x jump a) := by
  cases a with
  | fader position ramp => exact modGain (f := fun g => g.setFader _ _) fun h => h.setFader
  | offset mask gs ramp => exact modGain (f := fun g => g.setOffsets _ _ _) id
  | mute mask on => exact modGain (f := fun g => g.setMutes _ _) id
  | preset t =>
    unfold State.applyAction
    dsimp only
    split
    · exact post
    · exact select
  | format f => exact forceFormat
  | source l => exact IntakeWork.stageSource.toWork
  | lineSet l => exact operateLine (cueScreen_of_valid rfl hvalid)
  | lineClear l => exact operateLine (cueScreen_of_valid rfl hvalid)
  | lineToggle l => exact operateLine (cueScreen_of_valid rfl hvalid)
  | linePulse l width => exact operateLine (cueScreen_of_valid rfl hvalid)
  | clock c => exact clockCommand
  | mark n => exact postCue

theorem performAction {jump : Bool} {index : Nat} {a : CueAction} : Work i s (s.performAction i x jump index a).1 := by
  unfold State.performAction
  split
  next => exact postCue
  next hvalid => exact applyAction hvalid

theorem performAll {k : Nat} {actions : List CueAction} : Work i s (s.performAll i x k actions) := by
  induction actions generalizing s k with
  | nil => exact refl i s
  | cons a rest ih => exact performAction.trans ih

theorem applyPassed {k : Nat} {actions : List CueAction} : Work i s (s.applyPassed i x k actions).1 := by
  induction actions generalizing s k with
  | nil => exact refl i s
  | cons a rest ih =>
    unfold State.applyPassed
    split
    · exact performAction.trans ih
    · exact ih

/-! ### Cues (R149 to R153, R162) -/

theorem fireWith {actions : List CueAction} : Work i s (s.fireWith i x actions) :=
  postCue.trans ((modLive rfl).trans performAll)

theorem skipCue {e : CueEntry} {c : Condition} : Work i s (s.skipCue i x e c) := postCue.trans setCueState

theorem fireCue {e : CueEntry} : Work i s (s.fireCue i x e) := fireWith.trans setCueState

theorem passCue {e : CueEntry} : Work i s (s.passCue i x e) :=
  applyPassed.trans (postCue.trans ((modLive rfl).trans setCueState))

theorem reachCue {window new : Nat} {e : CueEntry} : Work i s (s.reachCue i window new e) := by
  unfold State.reachCue
  dsimp only
  split
  · exact skipCue
  · split
    · exact passCue
    · exact fireCue

theorem foldl {α : Type} {f : State → α → State} (h : ∀ t a, Work i t (f t a)) (l : List α) :
    Work i s (l.foldl f s) := by
  induction l generalizing s with
  | nil => exact refl i s
  | cons a rest ih => exact (h s a).trans ih

theorem evaluateCues {m : Movement} : Work i s (s.evaluateCues i m) := by
  have hwalk : Work i s
      (if m.old < m.new then
        ((s.scr i).cues.filter (fun e => e.reachedBy m)).foldl
          (fun t e => t.reachCue i (s.scr i).clock.passWindow m.new e) s
      else if m.new < m.old then s.rearm i (fun e => decide (m.new < e.time))
      else s) := by
    split
    · exact foldl (fun _ _ => reachCue) _
    · split
      · exact rearm
      · exact refl i s
  unfold State.evaluateCues
  dsimp only
  split
  · exact hwalk.trans rearm
  · exact hwalk

theorem performContent {m : Immediate} : Work i s (s.performContent i m) := by
  unfold State.performContent
  split
  · exact refl i s
  · exact fireWith
  · split
    · exact postCue
    · dsimp only
      split
      · exact skipCue
      · exact fireCue

theorem performSlot : Work i s (s.performSlot i) := by
  unfold State.performSlot
  generalize (s.scr i).immediate = m
  cases m with
  | empty => exact refl i s
  | cue number source => exact performContent.trans setImmediate
  | actions actions source => exact performContent.trans setImmediate

/-! ### The stages of the boundary before the gain stage -/

theorem taken : Work i s (s.taken i).1 := by
  have hmove : Work i (s.take i).1 ((s.take i).1.moveClock i (s.take i).2).1 := moveClock
  unfold State.taken
  dsimp only
  exact IntakeWork.take.toWork.trans hmove

end Work

end Sys2Proof.Machine
end

section
/-! The boundary of a screen (00_scope, "Block boundaries"): what it leaves, and the laws it keeps. The gain stage, the
meters and the close do more than the work of the other stages may, so the boundary is work before and between them. -/

namespace Sys2Proof.Machine

/-! ### What a boundary may do -/

/-- A change of a screen that keeps the laws of its blocks but those of the meters and the guard, and leaves its layout and
the entries of its cue list apart from their states. -/
structure Screen.Passed (c c' : Screen) : Prop where
  intake : c.intake.Kept c'.intake
  steering : c.decoder.Inv → c'.decoder.Inv
  mask : c'.decoder.mask = c.decoder.mask
  topology : c'.decoder.topology = c.decoder.topology
  delay : c'.decoder.delay = c.decoder.delay
  gain : c.gain.Inv → c'.gain.Inv
  clock : c.clock.Inv → c'.clock.Inv
  cues : c'.cues.map CueEntry.fixed = c.cues.map CueEntry.fixed

theorem Screen.Kept.passed {c c' : Screen} (h : c.Kept c') : c.Passed c' :=
  ⟨h.intake, h.steering, h.mask, h.topology, h.delay, h.gain, h.clock, h.cues⟩

theorem Screen.Passed.refl (c : Screen) : c.Passed c := (Screen.Kept.refl c).passed

theorem Screen.Passed.trans {c c' c'' : Screen} (h : c.Passed c') (h' : c'.Passed c'') : c.Passed c'' where
  intake := h.intake.trans h'.intake
  steering := h'.steering ∘ h.steering
  mask := h'.mask.trans h.mask
  topology := h'.topology.trans h.topology
  delay := h'.delay.trans h.delay
  gain := h'.gain ∘ h.gain
  clock := h'.clock ∘ h.clock
  cues := h'.cues.trans h.cues

/-- What a boundary of screen i may do to the part, apart from the meters and the guard of the screen. -/
structure Pass (i : ScreenIx) (s t : State) : Prop where
  outside : t.outside = s.outside
  others : ∀ j, j ≠ i → t.scr j = s.scr j
  pace : s.paceOut <+: t.paceOut
  queue : QueueInv s → QueueInv t
  claim : t.claim ≤ s.claim
  lines : ∀ l, (s.line l).Kept i (t.line l)
  screen : (s.scr i).Passed (t.scr i)
  bands : BandInv s → BandInv t

variable {i : ScreenIx} {s t u : State}

theorem Work.pass (h : Work i s t) : Pass i s t :=
  ⟨h.outside, h.others, h.pace, h.queue, h.claim, h.lines, h.screen.passed, h.bands⟩

namespace Pass

theorem refl (i : ScreenIx) (s : State) : Pass i s s := (Work.refl i s).pass

theorem trans (h : Pass i s t) (h' : Pass i t u) : Pass i s u where
  outside := h'.outside.trans h.outside
  others := fun j hj => (h'.others j hj).trans (h.others j hj)
  pace := h.pace.trans h'.pace
  queue := h'.queue ∘ h.queue
  claim := Nat.le_trans h'.claim h.claim
  lines := fun l => (h.lines l).trans (h'.lines l)
  screen := h.screen.trans h'.screen
  bands := h'.bands ∘ h.bands

theorem modScreen {f : Screen → Screen} (hpassed : (s.scr i).Passed (f (s.scr i)))
    (hclaims : (f (s.scr i)).claims = (s.scr i).claims) : Pass i s (s.modScreen i f) where
  outside := rfl
  others := fun j hj => State.scr_modScreen_of_ne hj
  pace := List.prefix_rfl
  queue := id
  claim := Nat.le_refl _
  lines := fun l => .refl _ _
  screen := by rw [State.scr_modScreen_same]; exact hpassed
  bands := BandInv.congr rfl fun j => by
    rw [State.scr_modScreen]
    split
    next h => rw [← h, hclaims]
    next => rfl

theorem gainStage {centre surround : Int} {e : Equalised} : Pass i s (s.gainStage i centre surround e).1 := by
  rw [State.gainStage_eq]
  dsimp only
  refine modScreen ?_ ?_
  · exact { Screen.Passed.refl (s.scr i) with gain := fun h => h.step }
  · rfl

theorem modMeters {f : Meters → Meters} : Pass i s (s.modMeters i f) := modScreen { Screen.Passed.refl (s.scr i) with } rfl

theorem modLive {f : Counters → Counters} : Pass i s (s.modLive i f) := modScreen { Screen.Passed.refl (s.scr i) with } rfl

theorem meterBlock {clips : Vector Bool 8} : Pass i s (s.meterBlock i clips) := modMeters

/-! ### The close of an interval -/

theorem modAlarms {f : Alarms → Alarms} : Pass i s (s.modAlarms i f) := modScreen { Screen.Passed.refl (s.scr i) with } rfl

theorem modGuard {f : GuardBlock → GuardBlock} : Pass i s (s.modGuard i f) :=
  modScreen { Screen.Passed.refl (s.scr i) with } rfl

theorem post {what : EventType} {detail : List Byte} : Pass i s (s.post what i detail) := Work.post.pass

theorem postAlarm {id : AlarmId} {p : AlarmPost} : Pass i s (s.postAlarm i id p) := by
  unfold State.postAlarm
  cases p with
  | raised => exact post.trans modLive
  | cleared => exact post
  | latched => exact post
  | remind n => exact post

theorem evaluateAlarm {id : AlarmId} : Pass i s (s.evaluateAlarm i id) := by
  unfold State.evaluateAlarm
  dsimp only
  split
  · exact modAlarms
  · exact trans modAlarms postAlarm

theorem foldl {α : Type} {f : State → α → State} (h : ∀ t a, Pass i t (f t a)) (l : List α) :
    Pass i s (l.foldl f s) := by
  induction l generalizing s with
  | nil => exact refl i s
  | cons a rest ih => exact (h s a).trans ih

theorem evaluateAlarms : Pass i s (s.evaluateAlarms i) := modAlarms.trans (foldl (fun _ _ => evaluateAlarm) _)

theorem guardDownStep : Pass i s (s.guardDownStep i) := by
  unfold State.guardDownStep
  dsimp only
  split
  · exact modGuard
  · exact trans modGuard post

theorem guardUpStep : Pass i s (s.guardUpStep i) := by
  unfold State.guardUpStep
  dsimp only
  split
  · exact trans modGuard post
  · exact modGuard

theorem evaluateGuard : Pass i s (s.evaluateGuard i) := by
  unfold State.evaluateGuard
  dsimp only
  split
  · refine trans (modGuard (f := fun _ => (s.scr i).countedGuard)) ?_
    split
    · exact guardDownStep
    · split
      · exact guardUpStep
      · exact refl _ _
  · exact refl _ _

theorem closeInterval : Pass i s (s.closeInterval i) :=
  trans modMeters (trans evaluateAlarms evaluateGuard)

/-! ### The boundary up to the close -/

theorem audio {t : Taken} : Pass i s (s.audio i t).1 := by
  unfold State.audio
  dsimp only
  exact Work.decode.pass.trans (Work.equalise.pass.trans (gainStage.trans Work.switchProgress.pass))

theorem beforeClose : Pass i s (s.beforeClose i) := by
  unfold State.beforeClose
  dsimp only
  exact Work.taken.pass.trans
    (audio.trans (meterBlock.trans (Work.evaluateCues.pass.trans Work.performSlot.pass)))

theorem boundary : Pass i s (s.boundary i) := by
  unfold State.boundary
  dsimp only
  split
  · exact beforeClose.trans closeInterval
  · exact beforeClose

end Pass

/-! ### The close leaves the other blocks of the screen -/

theorem State.scr_postAlarm {id : AlarmId} {p : AlarmPost} :
    ∃ live, (s.postAlarm i id p).scr i = { s.scr i with live := live } := by
  cases p with
  | raised =>
    refine ⟨{ (s.scr i).live with alarmRaises := bumped (s.scr i).live.alarmRaises }, ?_⟩
    simp [State.postAlarm]
  | cleared | latched | remind => exact ⟨(s.scr i).live, by simp only [State.postAlarm, State.scr_post]⟩

/-- An alarm that is evaluated takes its move's place; of the rest of the screen only the count of raises moves. -/
theorem State.scr_evaluateAlarm {id : AlarmId} :
    ∃ live,
      (s.evaluateAlarm i id).scr i =
        { s.scr i with alarms := (s.scr i).alarms.put id ((s.scr i).alarmMove id).alarm, live := live } := by
  unfold State.evaluateAlarm
  dsimp only
  split
  · exact ⟨(s.scr i).live, by simp⟩
  next p _ =>
    obtain ⟨live, h⟩ := State.scr_postAlarm (s := s.modAlarms i fun a => a.put id ((s.scr i).alarmMove id).alarm)
      (i := i) (id := id) (p := p)
    exact ⟨live, by rw [h]; simp⟩

theorem State.scr_evaluateAlarms :
    ∃ alarms live, (s.evaluateAlarms i).scr i = { s.scr i with alarms := alarms, live := live } := by
  have hfold (ids : List AlarmId) (s : State) :
      ∃ alarms live,
        (ids.foldl (fun s id => s.evaluateAlarm i id) s).scr i = { s.scr i with alarms := alarms, live := live } := by
    induction ids generalizing s with
    | nil => exact ⟨(s.scr i).alarms, (s.scr i).live, rfl⟩
    | cons id rest ih =>
      obtain ⟨live, h⟩ := State.scr_evaluateAlarm (s := s) (i := i) (id := id)
      obtain ⟨alarms', live', h'⟩ := ih (s.evaluateAlarm i id)
      exact ⟨alarms', live', by rw [List.foldl_cons, h', h]⟩
  obtain ⟨alarms, live, h⟩ := hfold AlarmId.all (s.readStream i)
  exact ⟨alarms, live, by rw [State.evaluateAlarms, h]; simp [State.readStream]⟩

/-! ### The guard's law (R122, R124) -/

theorem GuardBlock.Inv.count {g : GuardBlock} {k : LevelClass} (h : g.Inv) : (g.count k).Inv := h

theorem GuardBlock.Inv.stepDown {g : GuardBlock} (h : g.Inv) : g.stepDown.Inv := by
  obtain ⟨hfloor, hlow, hhigh⟩ := h
  refine ⟨hfloor, Int.le_max_left _ _, ?_⟩
  show max g.floor (g.value - g.step) ≤ 0
  omega

theorem GuardBlock.Inv.stepUp {g : GuardBlock} (h : g.Inv) : g.stepUp.Inv := by
  obtain ⟨hfloor, hlow, hhigh⟩ := h
  refine ⟨hfloor, ?_, Int.min_le_left _ _⟩
  show g.floor ≤ min 0 (g.value + g.step)
  omega

theorem State.scr_evaluateGuard :
    ∃ g, (s.evaluateGuard i).scr i = { s.scr i with guard := g } ∧ ((s.scr i).guard.Inv → g.Inv) := by
  unfold State.evaluateGuard State.guardDownStep State.guardUpStep
  dsimp only
  split
  · split
    · exact ⟨(s.scr i).countedGuard.stepDown, by split <;> simp, fun h => h.count.stepDown⟩
    · split
      · exact ⟨(s.scr i).countedGuard.stepUp, by split <;> simp, fun h => h.count.stepUp⟩
      · exact ⟨(s.scr i).countedGuard, by simp, fun h => h.count⟩
  · exact ⟨(s.scr i).guard, rfl, id⟩

/-- The close publishes, and moves the instances and the guard; nothing else of the screen moves. -/
theorem State.scr_closeInterval :
    ∃ alarms live g,
      (s.closeInterval i).scr i =
        { s.scr i with meters := (s.scr i).meters.close, alarms := alarms, live := live, guard := g } ∧
      ((s.scr i).guard.Inv → g.Inv) := by
  obtain ⟨alarms, live, ha⟩ := State.scr_evaluateAlarms (s := s.modMeters i Meters.close) (i := i)
  obtain ⟨g, hg, hlaw⟩ := State.scr_evaluateGuard (s := (s.modMeters i Meters.close).evaluateAlarms i) (i := i)
  rw [ha] at hg hlaw
  refine ⟨alarms, live, g, ?_, fun h => hlaw (by simpa using h)⟩
  rw [State.closeInterval, hg]
  simp

/-! ### The boundary up to the close -/

theorem State.immediate_performSlot : ((s.performSlot i).scr i).immediate = .empty := by
  unfold State.performSlot
  split
  next h => exact h
  next => simp

/-- The boundary up to the gain stage, whose work is the screen's. -/
def State.equalised (s : State) (i : ScreenIx) : State × Equalised :=
  let t := s.taken i
  let decoded := t.1.decode i t.2.1
  decoded.1.equalise i decoded.2

/-- The gain stage of the boundary, with the steering values of the boundary before. -/
def State.gained (s : State) (i : ScreenIx) : State × Vector Bool 8 :=
  let d := ((s.taken i).1.scr i).decoder
  (s.equalised i).1.gainStage i d.centre d.surround (s.equalised i).2

/-- The boundary up to the meters. -/
def State.metered (s : State) (i : ScreenIx) : State :=
  ((s.gained i).1.switchProgress i).meterBlock i (s.gained i).2

theorem State.beforeClose_eq :
    s.beforeClose i = ((s.metered i).evaluateCues i (s.taken i).2.2).performSlot i := rfl

theorem Work.equalised : Work i s (s.equalised i).1 := by
  unfold State.equalised
  dsimp only
  exact Work.taken.trans (Work.decode.trans Work.equalise)

theorem Work.afterMeters : Work i (s.metered i) (s.beforeClose i) := by
  rw [State.beforeClose_eq]
  exact Work.evaluateCues.trans Work.performSlot

/-- The gain stage moves its terms, the lane and the counters of the screen only. -/
theorem State.scr_gainStage {centre surround : Int} {e : Equalised} :
    ∃ lane live,
      (s.gainStage i centre surround e).1.scr i =
        { s.scr i with gain := (s.scr i).gain.step, lane := lane, live := live } := by
  rw [State.gainStage_eq]
  exact ⟨_, _, State.scr_modScreen_same⟩

theorem State.lane_gainStage {centre surround : Int} {e : Equalised} :
    ((s.gainStage i centre surround e).1.scr i).lane =
      Vector.ofFn (fun b =>
        (gainBus (s.scr i).gain.step (s.scr i).decoder (s.scr i).guard.value centre surround e b).1) := by
  rw [State.gainStage_eq]
  exact congrArg Screen.lane State.scr_modScreen_same

theorem State.lane_beforeClose : ((s.beforeClose i).scr i).lane = ((s.gained i).1.scr i).lane := by
  rw [Work.afterMeters.screen.lane, State.metered, State.meterBlock, State.scr_modMeters, if_pos rfl,
    Work.switchProgress.screen.lane]

theorem State.scr_gained :
    ∃ lane live,
      (s.gained i).1.scr i =
        { (s.equalised i).1.scr i with gain := ((s.equalised i).1.scr i).gain.step, lane := lane, live := live } :=
  State.scr_gainStage

theorem State.meters_gained : ((s.gained i).1.scr i).meters = (s.scr i).meters := by
  obtain ⟨lane, live, h⟩ := State.scr_gained (s := s) (i := i)
  have hbefore := (Work.equalised (s := s) (i := i)).screen.meters
  rw [h]
  dsimp only
  exact hbefore

theorem State.guard_gained : ((s.gained i).1.scr i).guard = (s.scr i).guard := by
  obtain ⟨lane, live, h⟩ := State.scr_gained (s := s) (i := i)
  have hbefore := (Work.equalised (s := s) (i := i)).screen.guard
  rw [h]
  dsimp only
  exact hbefore

/-- Up to the close the meters take one block, of the lane as the gain stage has left it. -/
theorem State.meters_beforeClose :
    ((s.beforeClose i).scr i).meters = (s.scr i).meters.block ((s.gained i).1.scr i).lane (s.gained i).2 := by
  rw [Work.afterMeters.screen.meters, State.metered, State.meterBlock, State.scr_modMeters, if_pos rfl]
  show Meters.block _ _ _ = _
  rw [Work.switchProgress.screen.lane, Work.switchProgress.screen.meters, State.meters_gained]

theorem State.guard_beforeClose : ((s.beforeClose i).scr i).guard = (s.scr i).guard := by
  rw [Work.afterMeters.screen.guard, State.metered, State.meterBlock, State.scr_modMeters, if_pos rfl]
  show ((s.gained i).1.switchProgress i |>.scr i).guard = _
  rw [Work.switchProgress.screen.guard, State.guard_gained]

/-! ### The meters' law (R90 to R92, R95) -/

theorem pushWindow_length_le {α : Type} {capacity : Nat} {w : List α} {x : α} (hcapacity : 1 ≤ capacity) :
    (pushWindow capacity w x).length ≤ capacity := by
  simp only [pushWindow, List.length_append, List.length_drop, List.length_singleton]
  omega

/-- The meters' law but for the number of boundaries. -/
def Meters.Bounded (m : Meters) : Prop :=
  10 ≤ m.window ∧ m.ring.length ≤ m.window ∧
    ∀ b : Fin 8, m.busWindows[b].length ≤ 100 ∧ m.clipHistories[b].length ≤ 100

theorem Meters.inv_iff {m : Meters} : m.Inv ↔ m.boundaryCount ≤ 9 ∧ m.Bounded := Iff.rfl

theorem Meters.Bounded.block {m : Meters} {lane : Vector (List Int) 8} {clips : Vector Bool 8} (h : m.Bounded) :
    (m.block lane clips).Bounded := by
  obtain ⟨hwindow, hring, hbuses⟩ := h
  refine ⟨hwindow, hring, fun b => ⟨(hbuses b).1, ?_⟩⟩
  show (Vector.ofFn fun b : Fin 8 => pushWindow 100 m.clipHistories[b] clips[b])[b].length ≤ 100
  rw [Fin.getElem_fin, Vector.getElem_ofFn]
  exact pushWindow_length_le (by decide)

theorem Meters.Bounded.close {m : Meters} (h : m.Bounded) : m.close.Bounded := by
  obtain ⟨hwindow, hring, hbuses⟩ := h
  refine ⟨hwindow, pushWindow_length_le (by omega), fun b => ⟨?_, (hbuses b).2⟩⟩
  show (Vector.ofFn fun b : Fin 8 => pushWindow 100 m.busWindows[b] m.accumulators[b])[b].length ≤ 100
  rw [Fin.getElem_fin, Vector.getElem_ofFn]
  exact pushWindow_length_le (by decide)

theorem Meters.Inv.boundary (h : (s.scr i).meters.Inv) : ((s.boundary i).scr i).meters.Inv := by
  obtain ⟨hcount, hbounded⟩ := Meters.inv_iff.mp h
  have hblock : ((s.beforeClose i).scr i).meters.Bounded := by
    rw [State.meters_beforeClose]
    exact hbounded.block
  unfold State.boundary
  dsimp only
  split
  · obtain ⟨alarms, live, g, hscr, -⟩ := State.scr_closeInterval (s := s.beforeClose i) (i := i)
    rw [hscr]
    exact Meters.inv_iff.mpr ⟨Nat.zero_le _, hblock.close⟩
  next hlt => exact Meters.inv_iff.mpr ⟨by omega, hblock⟩

theorem GuardBlock.Inv.boundary (h : (s.scr i).guard.Inv) : ((s.boundary i).scr i).guard.Inv := by
  have hbefore : ((s.beforeClose i).scr i).guard.Inv := by
    rw [State.guard_beforeClose]
    exact h
  unfold State.boundary
  dsimp only
  split
  · obtain ⟨alarms, live, g, hscr, hlaw⟩ := State.scr_closeInterval (s := s.beforeClose i) (i := i)
    rw [hscr]
    exact hlaw hbefore
  · exact hbefore

end Sys2Proof.Machine
end

section
/-! The laws that every command keeps, said once for all of them: the relation `Laws`, and its rules for a request's body. -/

namespace Sys2Proof.Machine

/-! ### The laws of a screen's blocks -/

/-- A change of a screen that keeps the law of each of its blocks. -/
structure Screen.Lawful (c c' : Screen) : Prop where
  intake : c.intake.Inv → c'.intake.Inv
  buffer : ∀ l, (c.intake.slot l).BufferInv → (c'.intake.slot l).BufferInv
  decoder : c.decoder.Inv → c'.decoder.Inv
  gain : c.gain.Inv → c'.gain.Inv
  meters : c.meters.Inv → c'.meters.Inv
  guard : c.guard.Inv → c'.guard.Inv
  clock : c.clock.Inv → c'.clock.Inv

theorem Screen.Lawful.refl (c : Screen) : c.Lawful c := ⟨id, fun _ => id, id, id, id, id, id⟩

theorem Screen.Lawful.trans {c c' c'' : Screen} (h : c.Lawful c') (h' : c'.Lawful c'') : c.Lawful c'' where
  intake := h'.intake ∘ h.intake
  buffer := fun l => h'.buffer l ∘ h.buffer l
  decoder := h'.decoder ∘ h.decoder
  gain := h'.gain ∘ h.gain
  meters := h'.meters ∘ h.meters
  guard := h'.guard ∘ h.guard
  clock := h'.clock ∘ h.clock

theorem Screen.Kept.lawful {c c' : Screen} (h : c.Kept c') : c.Lawful c' where
  intake := h.intake.law
  buffer := h.intake.buffer
  decoder := h.steering
  gain := h.gain
  meters := h.meters ▸ id
  guard := h.guard ▸ id
  clock := h.clock

/-! ### The relation -/

/-- What every command does: it leaves the waiting commands, adds at the end of what was sent, keeps every law, and reaches
no screen but those touched. -/
structure Laws (touched : ScreenIx → Prop) (s t : State) : Prop where
  pending : t.pending = s.pending
  control : s.controlOut <+: t.controlOut
  pace : s.paceOut <+: t.paceOut
  queue : QueueInv s → QueueInv t
  seen : SeenInv s → SeenInv t
  bound : BoundOnce s → BoundOnce t
  screens : ∀ i, (s.scr i).Lawful (t.scr i)
  cues : CuesInv s → CuesInv t
  bands : BandInv s → BandInv t
  lines : ∀ l, (s.line l).Inv → (t.line l).Inv
  others : ∀ j, ¬ touched j → t.scr j = s.scr j

namespace Laws

variable {touched : ScreenIx → Prop} {s t u : State}

theorem refl (touched : ScreenIx → Prop) (s : State) : Laws touched s s :=
  ⟨rfl, List.prefix_rfl, List.prefix_rfl, id, id, id, fun _ => .refl _, id, id, fun _ => id, fun _ _ => rfl⟩

theorem trans (h : Laws touched s t) (h' : Laws touched t u) : Laws touched s u where
  pending := h'.pending.trans h.pending
  control := h.control.trans h'.control
  pace := h.pace.trans h'.pace
  queue := h'.queue ∘ h.queue
  seen := h'.seen ∘ h.seen
  bound := h'.bound ∘ h.bound
  screens := fun i => (h.screens i).trans (h'.screens i)
  cues := h'.cues ∘ h.cues
  bands := h'.bands ∘ h.bands
  lines := fun l => h'.lines l ∘ h.lines l
  others := fun j hj => (h'.others j hj).trans (h.others j hj)

end Laws

/-! ### The laws of the whole part under a change of one screen -/

theorem BoundOnce.congr {s t : State} (h : ∀ i l, (t.slot i l).streamId = (s.slot i l).streamId) (hs : BoundOnce s) :
    BoundOnce t := by
  intro i l j m hne heq
  simp only [h] at hne heq
  exact hs i l j m hne heq

theorem CueEntry.number_fixed {e : CueEntry} : e.fixed.number = e.number := rfl

theorem cues_inv_congr {l l' : List CueEntry} (h : l'.map CueEntry.fixed = l.map CueEntry.fixed)
    (hs : l.Pairwise (fun a b => a.before b = true) ∧ (l.map CueEntry.number).Nodup) :
    l'.Pairwise (fun a b => a.before b = true) ∧ (l'.map CueEntry.number).Nodup := by
  have hpairwise (m : List CueEntry) :
      m.Pairwise (fun a b => a.before b = true) ↔ (m.map CueEntry.fixed).Pairwise (fun a b => a.before b = true) := by
    rw [List.pairwise_map]
    rfl
  have hnumbers (m : List CueEntry) : m.map CueEntry.number = (m.map CueEntry.fixed).map CueEntry.number := by
    rw [List.map_map]
    rfl
  rw [hpairwise, hnumbers] at hs ⊢
  rw [h]
  exact hs

theorem CuesInv.congr {s t : State} (h : ∀ i, (t.scr i).cues.map CueEntry.fixed = (s.scr i).cues.map CueEntry.fixed)
    (hs : CuesInv s) : CuesInv t := by
  obtain ⟨hlists, hpool⟩ := hs
  refine ⟨fun i => cues_inv_congr (h i) (hlists i), ?_⟩
  have hlength (i : ScreenIx) : (t.scr i).cues.length = (s.scr i).cues.length := by
    simpa using congrArg List.length (h i)
  simpa only [hlength] using hpool

/-! ### Quiet changes: what the body of a request may do -/

/-- A change that keeps the laws and takes no more places of the reply path; it leaves the receiver and the holding area. -/
structure Quiet (touched : ScreenIx → Prop) (s t : State) : Prop extends Laws touched s t where
  holding : t.port.holding = s.port.holding
  phase : t.port.phase = s.port.phase
  claim : t.claim ≤ s.claim

namespace Quiet

variable {touched : ScreenIx → Prop} {s t u : State} {i : ScreenIx}

theorem refl (touched : ScreenIx → Prop) (s : State) : Quiet touched s s := ⟨.refl _ _, rfl, rfl, Nat.le_refl _⟩

theorem trans (h : Quiet touched s t) (h' : Quiet touched t u) : Quiet touched s u :=
  ⟨h.toLaws.trans h'.toLaws, h'.holding.trans h.holding, h'.phase.trans h.phase, Nat.le_trans h'.claim h.claim⟩

theorem of_work (h : Work i s t) (ht : touched i) : Quiet touched s t where
  pending := by rw [h.frame]
  control := (show s.controlOut = t.controlOut by rw [h.frame]) ▸ List.prefix_rfl
  pace := h.pace
  queue := h.queue
  seen := by rw [h.frame]; exact id
  bound := BoundOnce.congr fun j l => by
    by_cases hj : j = i
    · subst hj
      exact h.screen.intake.streamId l
    · rw [State.slot, h.others j hj]
      rfl
  screens := fun j => by
    by_cases hj : j = i
    · subst hj
      exact h.screen.lawful
    · rw [h.others j hj]
      exact .refl _
  cues := CuesInv.congr fun j => by
    by_cases hj : j = i
    · subst hj
      exact h.screen.cues
    · rw [h.others j hj]
  bands := h.bands
  lines := fun l => (h.lines l).law
  others := fun j hj => h.others j fun hji => hj (hji ▸ ht)
  holding := by rw [h.frame]
  phase := by rw [h.frame]
  claim := h.claim

/-- A change of one screen that keeps the laws of its blocks and those of the whole part. -/
theorem modScreen_of {f : Screen → Screen} (ht : touched i) (hlawful : (s.scr i).Lawful (f (s.scr i)))
    (hbound : BoundOnce s → BoundOnce (s.modScreen i f)) (hcues : CuesInv s → CuesInv (s.modScreen i f))
    (hbands : BandInv s → BandInv (s.modScreen i f)) : Quiet touched s (s.modScreen i f) where
  pending := rfl
  control := List.prefix_rfl
  pace := List.prefix_rfl
  queue := id
  seen := id
  bound := hbound
  screens := fun j => by
    rw [State.scr_modScreen]
    split
    next h => exact h ▸ hlawful
    next => exact .refl _
  cues := hcues
  bands := hbands
  lines := fun _ => id
  others := fun j hj => State.scr_modScreen_of_ne fun hji => hj (hji ▸ ht)
  holding := rfl
  phase := rfl
  claim := Nat.le_refl _

end Quiet

/-! ### What a change of one screen leaves of the laws of the whole part -/

section
variable {s : State} {i : ScreenIx} {f : Screen → Screen}

theorem BoundOnce.modScreen (hid : ∀ l, ((f (s.scr i)).intake.slot l).streamId = (s.slot i l).streamId) :
    BoundOnce s → BoundOnce (s.modScreen i f) :=
  BoundOnce.congr fun j l => by
    rw [State.slot, State.scr_modScreen]
    split
    next h => exact h ▸ hid l
    next => rfl

theorem CuesInv.modScreen (hcues : (f (s.scr i)).cues.map CueEntry.fixed = (s.scr i).cues.map CueEntry.fixed) :
    CuesInv s → CuesInv (s.modScreen i f) :=
  CuesInv.congr fun j => by
    rw [State.scr_modScreen]
    split
    next h => exact h ▸ hcues
    next => rfl

theorem BandInv.modScreen (hclaims : (f (s.scr i)).claims = (s.scr i).claims) : BandInv s → BandInv (s.modScreen i f) :=
  BandInv.congr rfl fun j => by
    rw [State.scr_modScreen]
    split
    next h => exact h ▸ hclaims
    next => rfl

end

end Sys2Proof.Machine
end

section
/-! The laws under the requests of one screen and under the commands inside the part. -/

namespace Sys2Proof.Machine

namespace Quiet

variable {touched : ScreenIx → Prop} {s t u : State} {i : ScreenIx}

/-- A change of one screen that keeps the laws of its blocks and leaves its stream IDs, its cues and its bands. -/
theorem modScreen {f : Screen → Screen} (ht : touched i) (hlawful : (s.scr i).Lawful (f (s.scr i)))
    (hid : ∀ l, ((f (s.scr i)).intake.slot l).streamId = (s.slot i l).streamId)
    (hcues : (f (s.scr i)).cues.map CueEntry.fixed = (s.scr i).cues.map CueEntry.fixed)
    (hclaims : (f (s.scr i)).claims = (s.scr i).claims) : Quiet touched s (s.modScreen i f) :=
  modScreen_of ht hlawful (BoundOnce.modScreen hid) (CuesInv.modScreen hcues) (BandInv.modScreen hclaims)

theorem modGain {f : Gain → Gain} (ht : touched i) (h : (s.scr i).gain.Inv → (f (s.scr i).gain).Inv) :
    Quiet touched s (s.modGain i f) := of_work (.modGain h) ht

theorem modMeters {f : Meters → Meters} (ht : touched i) (h : (s.scr i).meters.Inv → (f (s.scr i).meters).Inv) :
    Quiet touched s (s.modMeters i f) :=
  modScreen ht { Screen.Lawful.refl (s.scr i) with meters := h } (fun _ => rfl) rfl rfl

theorem modAlarms {f : Alarms → Alarms} (ht : touched i) : Quiet touched s (s.modAlarms i f) :=
  modScreen ht { Screen.Lawful.refl (s.scr i) with } (fun _ => rfl) rfl rfl

theorem modGuard {f : GuardBlock → GuardBlock} (ht : touched i) (h : (s.scr i).guard.Inv → (f (s.scr i).guard).Inv) :
    Quiet touched s (s.modGuard i f) :=
  modScreen ht { Screen.Lawful.refl (s.scr i) with guard := h } (fun _ => rfl) rfl rfl

theorem modClock {f : Clock → Clock} (ht : touched i) (h : (s.scr i).clock.Inv → (f (s.scr i).clock).Inv) :
    Quiet touched s (s.modClock i f) := of_work (.modClock h) ht

theorem postAt {what : EventType} {screen : Option ScreenIx} {position : Option Nat} {detail : List Byte} :
    Quiet touched s (s.postAt what screen position detail) where
  pending := State.postAt_pending
  control := State.postAt_controlOut ▸ List.prefix_rfl
  pace := State.postAt_paceOut ▸ List.prefix_rfl
  queue := QueueInv.postAt
  seen := by unfold SeenInv; rw [State.postAt_seen]; exact id
  bound := BoundOnce.congr fun j l => by rw [State.slot_postAt]
  screens := fun j => by rw [State.scr_postAt]; exact .refl _
  cues := CuesInv.congr fun j => by rw [State.scr_postAt]
  bands := BandInv.congr State.postAt_library fun j => by rw [State.scr_postAt]
  lines := fun l => by rw [State.line_postAt]; exact id
  others := fun j _ => State.scr_postAt
  holding := State.postAt_holding
  phase := State.postAt_phase
  claim := State.claim_postAt_le

theorem post {what : EventType} {detail : List Byte} : Quiet touched s (s.post what i detail) := postAt

/-- A change that leaves the screens, the library, the lines, the port and what was sent. -/
theorem of_rest (hscreens : t.screens = s.screens) (hlibrary : t.library = s.library) (hport : t.port = s.port)
    (hlines : ∀ l, (s.line l).Inv → (t.line l).Inv) (hqueue : QueueInv s → QueueInv t) (hseen : SeenInv s → SeenInv t)
    (hattention : t.queue.attention = s.queue.attention) (hpending : t.pending = s.pending)
    (hcontrol : t.controlOut = s.controlOut) (hpace : t.paceOut = s.paceOut) : Quiet touched s t := by
  have hscr (j : ScreenIx) : t.scr j = s.scr j := State.scr_of_screens hscreens j
  refine ⟨⟨hpending, hcontrol ▸ List.prefix_rfl, hpace ▸ List.prefix_rfl, hqueue, hseen, ?_, ?_, ?_, ?_, hlines, fun j _ => hscr j⟩,
    by rw [hport], by rw [hport], ?_⟩
  · exact BoundOnce.congr fun j l => by rw [State.slot, hscr]; rfl
  · exact fun j => hscr j ▸ .refl _
  · exact CuesInv.congr fun j => by rw [hscr]
  · exact BandInv.congr hlibrary fun j => by rw [hscr]
  · exact Nat.le_of_eq (by rw [State.claim, State.claim, hport, hattention])

theorem modLine {l : LineIx} {f : Line → Line} (h : (s.line l).Inv → (f (s.line l)).Inv) :
    Quiet touched s (s.modLine l f) := by
  refine of_rest rfl rfl rfl (fun m hm => ?_) id id rfl rfl rfl rfl
  rw [State.line_modLine]
  split
  next hlm => exact hlm ▸ h (hlm ▸ hm)
  next => exact hm

theorem modQueue {f : EventQueue → EventQueue} (hlaw : QueueInv s → QueueInv (s.modQueue f))
    (hattention : (f s.queue).attention = s.queue.attention) : Quiet touched s (s.modQueue f) :=
  of_rest rfl rfl rfl (fun _ => id) hlaw id hattention rfl rfl rfl

theorem of_pass (h : Pass i s t) (hmeters : (s.scr i).meters.Inv → (t.scr i).meters.Inv)
    (hguard : (s.scr i).guard.Inv → (t.scr i).guard.Inv) (ht : touched i) : Quiet touched s t where
  pending := by rw [State.outside_eq_iff.mp h.outside]
  control := (show s.controlOut = t.controlOut by rw [State.outside_eq_iff.mp h.outside]) ▸ List.prefix_rfl
  pace := h.pace
  queue := h.queue
  seen := by rw [State.outside_eq_iff.mp h.outside]; exact id
  bound := BoundOnce.congr fun j l => by
    by_cases hj : j = i
    · subst hj
      exact h.screen.intake.streamId l
    · rw [State.slot, h.others j hj]
      rfl
  screens := fun j => by
    by_cases hj : j = i
    · subst hj
      exact ⟨h.screen.intake.law, h.screen.intake.buffer, h.screen.steering, h.screen.gain, hmeters, hguard,
        h.screen.clock⟩
    · rw [h.others j hj]
      exact .refl _
  cues := CuesInv.congr fun j => by
    by_cases hj : j = i
    · subst hj
      exact h.screen.cues
    · rw [h.others j hj]
  bands := h.bands
  lines := fun l => (h.lines l).law
  others := fun j hj => h.others j fun hji => hj (hji ▸ ht)
  holding := by rw [State.outside_eq_iff.mp h.outside]
  phase := by rw [State.outside_eq_iff.mp h.outside]
  claim := h.claim

/-- The boundary keeps every law. -/
theorem boundary (ht : touched i) : Quiet touched s (s.boundary i) :=
  of_pass .boundary .boundary .boundary ht

end Quiet

/-! ### A step of the part -/

/-- A change that keeps every law, the control port's with them. -/
structure StepLaws (touched : ScreenIx → Prop) (s t : State) : Prop extends Laws touched s t where
  port : PortInv s → PortInv t

section
variable {touched : ScreenIx → Prop} {s t : State}

theorem Quiet.step (h : Quiet touched s t) : StepLaws touched s t where
  toLaws := h.toLaws
  port := by
    rw [portInv_iff, portInv_iff, h.holding, h.phase]
    rintro ⟨hholding, hclaim, hstarting⟩
    exact ⟨hholding, Nat.le_trans h.claim hclaim, fun hphase => Nat.le_trans h.claim (hstarting hphase)⟩

/-- A change of the port only. -/
theorem Laws.modPort {f : Port → Port} : Laws touched s (s.modPort f) :=
  ⟨rfl, List.prefix_rfl, List.prefix_rfl, id, id, id, fun _ => .refl _, id, id, fun _ => id, fun _ _ => rfl⟩

theorem State.claim_pushPath {f : Frame} : (s.pushPath f).claim = s.claim + 1 := by
  have hlength : (s.pushPath f).port.path.length = s.port.path.length + 1 := by
    simp [State.pushPath, State.modPort]
  rw [State.claim, State.claim, hlength]
  exact Nat.add_right_comm _ _ _

/-- A request served by a body that takes no more of the reply path than its reply. -/
theorem StepLaws.serve {c : Instr} {q : Req} {kind : Byte} {bad : List Byte} {body : State → State × List Byte}
    (hlaws : Laws touched s.beginService (body s.beginService).1)
    (hholding : (body s.beginService).1.port.holding = s.port.holding.tail)
    (hphase : s.port.phase = .accepting → (body s.beginService).1.port.phase ≠ .starting)
    (hclaim : (body s.beginService).1.claim ≤ s.port.path.length + 1) :
    StepLaws touched s (s.serve c q kind bad body) := by
  have hbegin : Laws touched s s.beginService := .modPort
  have hroom (u : State) (f : Frame) (hserves : s.serves c = true) (hlen : u.port.holding = s.port.holding.tail)
      (hne : u.port.phase ≠ .starting) (hle : u.claim ≤ s.port.path.length + 1) : PortInv s → PortInv (u.pushPath f) := by
    obtain ⟨-, hpath, -⟩ := State.serves_iff.mp hserves
    rw [portInv_iff, portInv_iff]
    rintro ⟨hheld, -, -⟩
    refine ⟨?_, ?_, fun h => absurd h hne⟩
    · show u.port.holding.length ≤ 4
      rw [hlen, List.length_tail]
      omega
    · rw [State.claim_pushPath]
      omega
  cases hserves : s.serves c
  · rw [State.serve_not hserves]
    exact (Quiet.refl touched s).step
  · have hphase' := (State.serves_iff.mp hserves).1
    cases hq : q.lengthOk
    · rw [State.serve_badLength hserves hq]
      refine ⟨hbegin.trans .modPort, hroom _ _ hserves rfl ?_ State.claim_le⟩
      show s.port.phase ≠ .starting
      simp [hphase']
    · rw [State.serve_ok hserves hq]
      exact ⟨hbegin.trans (hlaws.trans .modPort), hroom _ _ hserves hholding (hphase hphase') hclaim⟩

/-- A request whose body is quiet. -/
theorem StepLaws.served {c : Instr} {q : Req} {kind : Byte} {bad : List Byte} {body : State → State × List Byte}
    (h : ∀ u, Quiet touched u (body u).1) : StepLaws touched s (s.serve c q kind bad body) := by
  have hbody := h s.beginService
  refine StepLaws.serve hbody.toLaws hbody.holding (fun hphase => ?_) (Nat.le_trans hbody.claim State.claim_le)
  rw [hbody.phase]
  show s.port.phase ≠ .starting
  simp [hphase]

end

end Sys2Proof.Machine
end

section
/-! The requests of one screen, each shown to be quiet: the intake, the decoder, the gain stage, the equaliser, the meters,
the alarm monitor, the clock and the cue list. -/

namespace Sys2Proof.Machine

/-! ### Binding (R3, R6, R7) -/

theorem mem_allSlots {i : ScreenIx} {l : Letter} : (i, l) ∈ allSlots := by
  cases l <;> simp [allSlots]

theorem State.holder_eq_none {s : State} {id : StreamId} :
    s.holder id = none ↔ ∀ i l, (s.slot i l).streamId ≠ some id := by
  simp only [State.holder, List.find?_eq_none, decide_eq_true_eq, Prod.forall]
  exact ⟨fun h i l => h i l mem_allSlots, fun h i l _ => h i l⟩

theorem State.streamId_of_holder {s : State} {id : StreamId} {i : ScreenIx} {l : Letter} (h : s.holder id = some (i, l)) :
    (s.slot i l).streamId = some id := by
  simpa using List.find?_some h

/-- A slot that is given a stream ID no slot holds, or none, keeps the law of the binding table. -/
theorem BoundOnce.modSlot {s : State} {i : ScreenIx} {l : Letter} {f : Slot → Slot}
    (hnew : ∀ id, (f (s.slot i l)).streamId = some id → ∀ j m, (s.slot j m).streamId ≠ some id) (hs : BoundOnce s) :
    BoundOnce (s.modSlot i l f) := by
  intro j m j' m' hne heq
  simp only [State.slot_modSlot] at hne heq
  split at hne
  next h =>
    obtain ⟨rfl, rfl⟩ := h
    rw [if_pos ⟨rfl, rfl⟩] at heq
    split at heq
    next h' => exact h'
    next =>
      obtain ⟨id, hid⟩ := Option.ne_none_iff_exists'.mp hne
      exact absurd (heq.symm.trans hid) (hnew id hid j' m')
  next h =>
    rw [if_neg h] at heq
    split at heq
    next h' =>
      obtain ⟨id, hid⟩ := Option.ne_none_iff_exists'.mp hne
      exact absurd hid (hnew id (heq.symm.trans hid) j m)
    next => exact hs j m j' m' hne heq

/-- A slot that neither plays nor holds keeps the law of its intake. -/
theorem Intake.Inv.setSlot {k : Intake} {l : Letter} {y : Slot} (hplay : y.state ≠ .playing) (hhold : y.holding = false)
    (h : k.Inv) : (k.setSlot l y).Inv := by
  intro m
  rw [Intake.slot_setSlot, Intake.setSlot_selection]
  split
  · exact ⟨fun hy => absurd hy hplay, fun hy => by rw [hhold] at hy; cases hy⟩
  · exact h m

theorem Slot.bufferInv_setSlot {k : Intake} {l m : Letter} {y : Slot} (hbuffer : y.BufferInv) (h : (k.slot m).BufferInv) :
    ((k.setSlot l y).slot m).BufferInv := by
  rw [Intake.slot_setSlot]
  split
  · exact hbuffer
  · exact h

theorem Slot.bufferInv_empty {x : Slot} (hstate : x.state = .empty ∨ x.state = .waiting) (hexpected : x.expected = none)
    (hbuffer : x.buffer = []) : x.BufferInv :=
  (Slot.bufferInv_of_none hexpected).mpr ⟨fun h => hstate.elim h.1 h.2, hbuffer⟩

theorem State.slot_with_seen {s : State} {seen : List SeenEntry} {i : ScreenIx} {l : Letter} :
    ({ s with seen := seen } : State).slot i l = s.slot i l := rfl

/-- The settings of SET_CLOCK bring a position above the length to it (R137). -/
theorem Clock.inv_configure {c : Clock} {mode : ClockMode} {length : Nat} {endMode : EndMode} {pass flywheel : Nat} :
    (c.configure mode length endMode pass flywheel).Inv := by
  unfold Clock.configure
  dsimp only
  split
  · exact fun _ => Nat.le_refl _
  next h => exact fun hlength => Nat.le_of_not_lt fun hlt => h ⟨hlength, hlt⟩

namespace Quiet

variable {touched : ScreenIx → Prop} {s t u : State} {i : ScreenIx} {l : Letter}

/-! ### Requests of the intake -/

/-- A slot that is bound or released. -/
theorem modSlot {f : Slot → Slot} (ht : touched i)
    (hnew : ∀ id, (f (s.slot i l)).streamId = some id → ∀ j m, (s.slot j m).streamId ≠ some id)
    (hplay : (f (s.slot i l)).state ≠ .playing) (hhold : (f (s.slot i l)).holding = false)
    (hbuffer : (f (s.slot i l)).BufferInv) : Quiet touched s (s.modSlot i l f) := by
  refine modScreen_of ht ?_ (BoundOnce.modSlot hnew) (CuesInv.modScreen rfl) (BandInv.modScreen rfl)
  exact { Screen.Lawful.refl (s.scr i) with
    intake := fun h => h.setSlot hplay hhold, buffer := fun m hm => Slot.bufferInv_setSlot hbuffer hm }

theorem intakeWork (h : IntakeWork i s t) (ht : touched i) : Quiet touched s t := of_work h.toWork ht

/-- A stream ID leaves the seen list (R6). -/
theorem unseen {id : StreamId} :
    Quiet touched s { s with seen := s.seen.filter (fun e => decide (e.streamId ≠ id)) } := by
  refine of_rest rfl rfl rfl (fun _ h => h) (fun h => h) (fun h => ?_) rfl rfl rfl rfl
  obtain ⟨hlength, hnodup⟩ := h
  exact ⟨Nat.le_trans (List.length_filter_le _ _) hlength, hnodup.sublist (List.filter_sublist.map _)⟩

theorem bind {screen slot : Nat} {id : StreamId} (s : State) :
    Quiet (fun j => screenOf screen = some j) s (bindRule screen slot id s).1 := by
  unfold bindRule
  split
  next i l hi _ =>
    split
    · exact refl _ _
    · split
      · exact refl _ _
      next hfree =>
        rw [not_or, ne_eq, Classical.not_not, Option.not_isSome_iff_eq_none, State.holder_eq_none] at hfree
        obtain ⟨hempty, hnone⟩ := hfree
        dsimp only
        have hempty' : ((s.scr i).intake.slot l).state = .empty := hempty
        refine trans (t := s.modSlot i l fun x =>
          { x with streamId := some id, source := none, holding := false, lastAccepted := none, expected := none,
                   buffer := [] }) (modSlot hi ?_ ?_ rfl (Slot.bufferInv_empty (.inl hempty) rfl rfl)) ?_
        · rintro id' ⟨⟩
          exact hnone
        · simp [hempty]
        · generalize hbound : s.modSlot i l _ = u
          have hslot : u.slot i l =
              { s.slot i l with
                streamId := some id, source := none, holding := false, lastAccepted := none, expected := none,
                buffer := [] } := by
            rw [← hbound, State.slot_modSlot, if_pos ⟨rfl, rfl⟩]
          refine trans (unseen (id := id)) (intakeWork (IntakeWork.enterSlotState (fun h => nomatch h) ?_ ?_) hi)
          · intro hhold
            rw [State.slot_with_seen, hslot] at hhold
            cases hhold
          · rw [State.slot_with_seen, hslot]
            simp [hempty, SlotState.expects]
  next => exact refl _ _

theorem unbind {screen slot : Nat} (s : State) :
    Quiet (fun j => screenOf screen = some j) s (unbindRule screen slot s).1 := by
  unfold unbindRule
  split
  next i l hi _ =>
    dsimp only
    split
    · exact refl _ _
    · refine trans (intakeWork IntakeWork.endHolding hi) (trans (modSlot hi ?_ ?_ ?_ ?_) post)
      · exact fun id h => nomatch h
      · exact fun h => nomatch h
      · rfl
      · exact Slot.bufferInv_empty (.inl rfl) rfl rfl
  next => exact refl _ _

theorem setIntake {screen start low high policy pacing : Nat} (s : State) :
    Quiet (fun j => screenOf screen = some j) s (setIntakeRule screen start low high policy pacing s).1 := by
  unfold setIntakeRule
  split
  next i p on hi _ _ =>
    split
    · dsimp only
      refine trans (t := s.modIntake i fun k =>
        { k with start := start, low := low, high := high, policy := p, pacing := on }) ?_
        (intakeWork (IntakeWork.agree.trans IntakeWork.agree) hi)
      exact intakeWork (.modIntake (Intake.Kept.of_slots rfl rfl rfl)) hi
    · exact refl _ _
  next => exact refl _ _

theorem setSource {screen slot : Nat} (s : State) :
    Quiet (fun j => screenOf screen = some j) s (setSourceRule screen slot s).1 := by
  unfold setSourceRule
  split
  next i l hi _ => exact intakeWork .stageSource hi
  next => exact refl _ _

theorem listSeen {discovery : Nat} (s : State) : Quiet touched s (listSeenRule discovery s).1 := by
  have hmode (on : Bool) : Quiet touched s { s with discovery := on } :=
    of_rest rfl rfl rfl (fun _ => id) id id rfl rfl rfl rfl
  unfold listSeenRule
  dsimp only
  split
  · exact hmode false
  · exact hmode true
  · exact refl _ _
  · exact refl _ _

/-! ### Requests of the decoder and the gain stage -/

theorem setFormat {screen format : Nat} (s : State) :
    Quiet (fun j => screenOf screen = some j) s (setFormatRule screen format s).1 := by
  unfold setFormatRule
  split
  next i f hi _ => exact of_work .forceFormat hi
  next => exact refl _ _

theorem setFader {screen position ramp : Nat} (s : State) :
    Quiet (fun j => screenOf screen = some j) s (setFaderRule screen position ramp s).1 := by
  unfold setFaderRule
  split
  next i hi =>
    split
    · exact modGain (f := fun g => g.setFader position ramp) hi fun h => h.setFader
    · exact refl _ _
  next => exact refl _ _

theorem setLimit {screen position : Nat} (s : State) :
    Quiet (fun j => screenOf screen = some j) s (setLimitRule screen position s).1 := by
  unfold setLimitRule
  split
  next i hi =>
    split
    next hmax => exact modGain (f := fun g => g.setLimit position) hi fun h => h.setLimit hmax
    next => exact refl _ _
  next => exact refl _ _

theorem setTrim {screen : Nat} {mask : Byte} {trim : Int} (s : State) :
    Quiet (fun j => screenOf screen = some j) s (setTrimRule screen mask trim s).1 := by
  unfold setTrimRule
  split
  next i hi => exact modGain (f := fun g => g.setTrims mask trim) hi id
  next => exact refl _ _

theorem setMute {screen : Nat} {mask : Byte} {on : Nat} (s : State) :
    Quiet (fun j => screenOf screen = some j) s (setMuteRule screen mask on s).1 := by
  unfold setMuteRule
  split
  next i on hi _ => exact modGain (f := fun g => g.setMutes mask on) hi id
  next => exact refl _ _

/-! ### Requests of the meters and the alarm monitor -/

theorem setMeter {screen window : Nat} {calibration : Int} (s : State) :
    Quiet (fun j => screenOf screen = some j) s (setMeterRule screen window calibration s).1 := by
  unfold setMeterRule
  split
  next i hi =>
    split
    next hwindow =>
      dsimp only
      refine modMeters hi fun h => ?_
      obtain ⟨hcount, hmin, hring, hbuses⟩ := h
      refine ⟨hcount, hwindow.1, ?_, hbuses⟩
      dsimp only
      split
      next hsame => exact hsame ▸ hring
      next => exact Nat.zero_le _
    next => exact refl _ _
  next => exact refl _ _

theorem setAlarm {screen kind : Nat} {threshold hysteresis : Int} {raise clear latch interval count : Nat} (s : State) :
    Quiet (fun j => screenOf screen = some j) s
      (setAlarmRule screen kind threshold hysteresis raise clear latch interval count s).1 := by
  unfold setAlarmRule
  split
  next i k on hi _ _ =>
    dsimp only
    split
    · dsimp only
      exact modAlarms hi
    · exact refl _ _
  next => exact refl _ _

theorem acknowledge {id : AlarmId} (ht : touched i) : Quiet touched s (s.acknowledge i id).1 := by
  have hack : Quiet touched s
      (if ((s.scr i).alarms.get id).acknowledged then (s, Status.ok)
      else
        let s' := s.modAlarms i (fun a => a.put id { (s.scr i).alarms.get id with acknowledged := true })
        (s'.post .alarmAcked i ((s'.scr i).alarmDetail id), .ok)).1 := by
    split
    · exact refl _ _
    · exact trans (modAlarms ht) post
  unfold State.acknowledge
  dsimp only
  split
  · exact refl _ _
  · exact refl _ _
  · exact hack
  · exact hack
  · exact trans (modAlarms ht) post

theorem ackAlarm {screen kind bus : Nat} (s : State) :
    Quiet (fun j => screenOf screen = some j) s (ackAlarmRule screen kind bus s).1 := by
  unfold ackAlarmRule
  split
  next i k hi _ =>
    split
    · exact acknowledge hi
    · exact refl _ _
  next => exact refl _ _

theorem setGuard {screen enable step interval : Nat} {floor : Int} {release : Nat} (s : State) :
    Quiet (fun j => screenOf screen = some j) s (setGuardRule screen enable step interval floor release s).1 := by
  unfold setGuardRule
  split
  next i on hi _ =>
    dsimp only
    split
    next hranges =>
      obtain ⟨-, -, hlow, hhigh, -⟩ := hranges
      dsimp only
      refine modGuard hi fun h => ?_
      obtain ⟨-, hvalue, hzero⟩ := h
      unfold GuardBlock.configure
      split
      · exact ⟨hlow, Int.le_max_right _ _, Int.max_le.mpr ⟨hzero, hhigh⟩⟩
      · exact ⟨hlow, hhigh, Int.le_refl 0⟩
    next => exact refl _ _
  next => exact refl _ _

/-! ### Requests of the clock -/

theorem setClock {screen mode length endMode pass flywheel : Nat} (s : State) :
    Quiet (fun j => screenOf screen = some j) s (setClockRule screen mode length endMode pass flywheel s).1 := by
  unfold setClockRule
  split
  next i m e hi _ _ =>
    split
    · dsimp only
      exact modClock hi fun _ => Clock.inv_configure
    · exact refl _ _
  next => exact refl _ _

theorem clock {screen command position : Nat} (s : State) :
    Quiet (fun j => screenOf screen = some j) s (clockRule screen command position s).1 := by
  unfold clockRule
  split
  next i c hi _ => exact of_work .clockCommand hi
  next => exact refl _ _

theorem setTrigger {screen entry line edge position : Nat} (s : State) :
    Quiet (fun j => screenOf screen = some j) s (setTriggerRule screen entry line edge position s).1 := by
  have hclock {i : ScreenIx} (hi : screenOf screen = some i) {f : Clock → Clock}
      (hlength : (f (s.scr i).clock).length = (s.scr i).clock.length)
      (hposition : (f (s.scr i).clock).position = (s.scr i).clock.position) :
      Quiet (fun j => screenOf screen = some j) s (s.modClock i f) :=
    modClock hi fun h => h.congr hlength hposition
  unfold setTriggerRule
  split
  next i l e hi _ _ =>
    dsimp only
    split
    · dsimp only
      exact hclock hi rfl rfl
    · dsimp only
      exact hclock hi rfl rfl
    · split
      · dsimp only
        exact hclock hi rfl rfl
      · exact refl _ _
    · exact refl _ _
  next => exact refl _ _

theorem readCapture {screen : Nat} (s : State) : Quiet touched s (readCaptureRule screen s).1 := by
  unfold readCaptureRule
  split <;> exact refl _ _

end Quiet

end Sys2Proof.Machine
end

section
/-! The requests of the cue list, the equaliser's requests and those of the whole part, each shown to be quiet. -/

namespace Sys2Proof.Machine

/-! ### The cue lists (R144, R146) -/

theorem CueEntry.before_iff {a b : CueEntry} :
    a.before b = true ↔ a.time < b.time ∨ a.time = b.time ∧ a.number < b.number := by
  simp [CueEntry.before]

theorem CueEntry.before_trans {a b c : CueEntry} (h : a.before b = true) (h' : b.before c = true) : a.before c = true := by
  rw [CueEntry.before_iff] at h h' ⊢
  omega

/-- Entries of different numbers stand one before the other. -/
theorem CueEntry.before_of_not {a b : CueEntry} (h : ¬ a.before b = true) (hne : a.number ≠ b.number) : b.before a = true := by
  rw [CueEntry.before_iff] at h ⊢
  omega

theorem mem_insertCue {e c : CueEntry} {l : List CueEntry} : c ∈ insertCue e l ↔ c = e ∨ c ∈ l := by
  induction l with
  | nil => simp [insertCue]
  | cons a rest ih =>
    unfold insertCue
    split
    · simp
    · simp only [List.mem_cons, ih]
      exact or_left_comm

theorem insertCue_perm {e : CueEntry} {l : List CueEntry} : (insertCue e l).Perm (e :: l) := by
  induction l with
  | nil => exact .refl _
  | cons a rest ih =>
    unfold insertCue
    split
    · exact .refl _
    · exact (ih.cons a).trans (.swap e a rest)

/-- The list of a screen is in order, and no number stands in it twice (R144). -/
def Ordered (l : List CueEntry) : Prop :=
  l.Pairwise (fun a b => a.before b = true) ∧ (l.map CueEntry.number).Nodup

theorem Ordered.sublist {l l' : List CueEntry} (h : Ordered l) (hsub : l'.Sublist l) : Ordered l' :=
  ⟨h.1.sublist hsub, h.2.sublist (hsub.map _)⟩

theorem Ordered.insertCue {e : CueEntry} {l : List CueEntry} (h : Ordered l) (hnew : ∀ c ∈ l, c.number ≠ e.number) :
    Ordered (insertCue e l) := by
  obtain ⟨hpairwise, hnodup⟩ := h
  refine ⟨?_, ?_⟩
  · clear hnodup
    induction l with
    | nil => exact List.pairwise_singleton _ _
    | cons a rest ih =>
      rw [List.pairwise_cons] at hpairwise
      unfold Machine.insertCue
      split
      next hbefore =>
        refine List.pairwise_cons.mpr ⟨fun c hc => ?_, List.pairwise_cons.mpr hpairwise⟩
        rcases List.mem_cons.mp hc with rfl | hc
        · exact hbefore
        · exact CueEntry.before_trans hbefore (hpairwise.1 c hc)
      next hnot =>
        refine List.pairwise_cons.mpr ⟨fun c hc => ?_, ih (fun c hc => hnew c (List.mem_cons_of_mem _ hc)) hpairwise.2⟩
        rcases mem_insertCue.mp hc with rfl | hc
        · exact CueEntry.before_of_not hnot (hnew a (List.mem_cons_self ..)).symm
        · exact hpairwise.1 c hc
  · rw [(insertCue_perm.map _).nodup_iff, List.map_cons, List.nodup_cons]
    refine ⟨fun hmem => ?_, hnodup⟩
    obtain ⟨c, hc, hnumber⟩ := List.mem_map.mp hmem
    exact hnew c hc hnumber

/-- The entries of all lists together. -/
def State.cuesHeld (s : State) : Nat := ((List.finRange 8).map (fun i => (s.scr i).cues.length)).sum

theorem cuesInv_iff {s : State} : CuesInv s ↔ (∀ i, Ordered (s.scr i).cues) ∧ s.cuesHeld ≤ 1024 := Iff.rfl

theorem State.cuesFree_eq {s : State} : s.cuesFree = 1024 - s.cuesHeld := rfl

/-- When one list changes, the entries together change as the list does. -/
theorem State.cuesHeld_modCues {s : State} {i : ScreenIx} {f : List CueEntry → List CueEntry} :
    (s.modCues i f).cuesHeld + (s.scr i).cues.length = s.cuesHeld + (f (s.scr i).cues).length := by
  have hself : ((s.modCues i f).scr i).cues = f (s.scr i).cues := by simp
  have hsum := sum_map_add_of_eq_off (f := fun j => ((s.modCues i f).scr j).cues.length)
    (g := fun j => (s.scr j).cues.length) (List.nodup_finRange 8) (List.mem_finRange i) fun j hne => by
      rw [State.modCues, State.scr_modScreen_of_ne hne]
  rw [← hself]
  exact hsum

theorem CuesInv.modCues {s : State} {i : ScreenIx} {f : List CueEntry → List CueEntry}
    (hordered : Ordered (s.scr i).cues → Ordered (f (s.scr i).cues))
    (hroom : (f (s.scr i).cues).length ≤ (s.scr i).cues.length + s.cuesFree) (hs : CuesInv s) : CuesInv (s.modCues i f) := by
  obtain ⟨hlists, hpool⟩ := cuesInv_iff.mp hs
  refine cuesInv_iff.mpr ⟨fun j => ?_, ?_⟩
  · rw [State.modCues, State.scr_modScreen]
    split
    next h => exact h ▸ hordered (hlists i)
    next => exact hlists j
  · have hadd := State.cuesHeld_modCues (s := s) (i := i) (f := f)
    rw [State.cuesFree_eq] at hroom
    omega

theorem removeCue_sublist {n : Nat} {l : List CueEntry} : (removeCue n l).Sublist l := List.filter_sublist

theorem State.findCue_eq_none {s : State} {i : ScreenIx} {n : Nat} :
    s.findCue i n = none ↔ ∀ e ∈ (s.scr i).cues, e.number ≠ n := by
  simp [State.findCue, List.find?_eq_none]

theorem State.findCue_eq_some {s : State} {i : ScreenIx} {n : Nat} {e : CueEntry} (h : s.findCue i n = some e) :
    e ∈ (s.scr i).cues ∧ e.number = n :=
  ⟨List.mem_of_find?_eq_some h, by simpa using List.find?_some h⟩

/-- An entry that takes another's place needs no room. -/
theorem removeCue_length_lt {n : Nat} {l : List CueEntry} {e : CueEntry} (he : e ∈ l) (hnumber : e.number = n) :
    (removeCue n l).length < l.length := by
  have hlt := List.length_filter_lt_length_iff_exists (l := l) (p := fun e => decide (e.number ≠ n))
  exact hlt.mpr ⟨e, he, by simp [hnumber]⟩

/-! ### The pool under a new layout and a new library slot (R29, R66) -/

theorem BandInv.relayout {s : State} {i : ScreenIx} {mask : Byte} {top : Topology} {delay : Nat}
    (hidle : (s.scr i).equaliser.switch = .idle)
    (hfits : s.requirementOver (s.scr i).equaliser.active mask ≤
      s.requirement i (s.scr i).equaliser.active + s.bandsFree) (hs : BandInv s) :
    BandInv (s.modDecoder i fun d => { d with mask := mask, topology := top, delay := delay }) := by
  refine BandInv.of_screen (s := s) (i := i) rfl
    (fun j hj => by rw [State.modDecoder, State.scr_modScreen_of_ne hj]) hs ?_ ?_
  · have hover : (s.modDecoder i fun d => { d with mask := mask, topology := top, delay := delay }).requirementOver =
        s.requirementOver := State.requirementOver_congr rfl
    have hmask : (s.modDecoder i fun d => { d with mask := mask, topology := top, delay := delay }).requirement i =
        fun t => s.requirementOver t mask := by
      funext t
      rw [State.requirement, hover]
      simp
    simpa [State.bandsHeld, hmask, hidle] using hfits
  · intro hcut
    simp [hidle] at hcut

/-- The pool's law depends on the requirements of the active and the incoming targets only. -/
theorem BandInv.of_requirements {s t : State} (hscr : ∀ i, t.scr i = s.scr i)
    (hactive : ∀ i, t.requirement i (s.scr i).equaliser.active = s.requirement i (s.scr i).equaliser.active)
    (hincoming : ∀ i, t.requirement i ((s.scr i).equaliser.incoming.getD none) =
      s.requirement i ((s.scr i).equaliser.incoming.getD none)) (hs : BandInv s) : BandInv t := by
  have hheld : t.bandsHeld = s.bandsHeld := by
    funext i
    simp only [State.bandsHeld, hscr, hactive, hincoming]
  obtain ⟨hall, hreserved⟩ := bandInv_iff.mp hs
  refine bandInv_iff.mpr ⟨?_, fun i => ?_⟩
  · rw [State.bandsHeldInAll, hheld]
    exact hall
  · have h := hreserved i
    rw [State.reserved] at h ⊢
    rwa [hscr, hactive, hincoming]

theorem State.contents_library {s : State} {p : PresetIx} {preset : Option Preset} {t : Target} (h : t ≠ some p) :
    ({ s with library := s.library.set p preset } : State).contents t = s.contents t := by
  funext b
  cases t with
  | none => rfl
  | some q =>
    have hne : p.val ≠ q.val := fun heq => h (congrArg some (Fin.ext heq.symm))
    simp [State.contents, hne]

theorem BandInv.library {s : State} {p : PresetIx} {preset : Option Preset} (hunused : s.inUse p = false) (hs : BandInv s) :
    BandInv { s with library := s.library.set p preset } := by
  have hnames (i : ScreenIx) : (s.scr i).equaliser.names p = false := by
    simpa [State.inUse] using List.any_eq_false.mp hunused i (List.mem_finRange i)
  have hrequirement (i : ScreenIx) {t : Target} (h : t ≠ some p) :
      ({ s with library := s.library.set p preset } : State).requirement i t = s.requirement i t := by
    simp only [State.requirement, State.requirementOver, State.contents_library h]
    rfl
  have hactive (i : ScreenIx) : (s.scr i).equaliser.active ≠ some p := by
    have h := hnames i
    simp only [Equaliser.names, Bool.or_eq_false_iff, decide_eq_false_iff_not] at h
    exact h.1.1
  have hincoming (i : ScreenIx) : (s.scr i).equaliser.incoming.getD none ≠ some p := by
    have h := hnames i
    simp only [Equaliser.names, Bool.or_eq_false_iff, decide_eq_false_iff_not] at h
    cases hin : (s.scr i).equaliser.incoming with
    | none => exact fun h => nomatch h
    | some t => exact fun ht => h.1.2 (by rw [hin, ← ht]; rfl)
  exact BandInv.of_requirements (s := s) (fun _ => rfl) (fun i => hrequirement i (hactive i)) (fun i => hrequirement i (hincoming i)) hs

namespace Quiet

variable {touched : ScreenIx → Prop} {s t u : State} {i : ScreenIx} {l : Letter}

theorem modCues {f : List CueEntry → List CueEntry} (ht : touched i)
    (hordered : Ordered (s.scr i).cues → Ordered (f (s.scr i).cues))
    (hroom : (f (s.scr i).cues).length ≤ (s.scr i).cues.length + s.cuesFree) : Quiet touched s (s.modCues i f) :=
  modScreen_of ht { Screen.Lawful.refl (s.scr i) with } (BoundOnce.modScreen fun _ => rfl) (CuesInv.modCues hordered hroom)
    (BandInv.modScreen rfl)

theorem setImmediate {m : Immediate} (ht : touched i) : Quiet touched s (s.setImmediate i m) := of_work .setImmediate ht

theorem loadCue {screen number time : Nat} {condition : RawCondition} {actions : List RawAction} (s : State) :
    Quiet (fun j => screenOf screen = some j) s (loadCueRule screen number time condition actions s).1 := by
  unfold loadCueRule
  split
  next i c hi _ =>
    split
    · exact refl _ _
    · split
      · exact refl _ _
      · split
        · exact refl _ _
        next l _ hroom =>
          dsimp only
          refine modCues hi (fun h => (h.sublist removeCue_sublist).insertCue fun e he => ?_) ?_
          · simpa using (List.mem_filter.mp he).2
          · rw [insertCue_perm.length_eq, List.length_cons]
            cases hfind : s.findCue i number with
            | none =>
              have hle := (removeCue_sublist (n := number) (l := (s.scr i).cues)).length_le
              have hfree : s.cuesFree ≠ 0 := fun hzero => hroom ⟨by simp [hfind], hzero⟩
              omega
            | some e =>
              obtain ⟨he, hnumber⟩ := State.findCue_eq_some hfind
              have hlt := removeCue_length_lt he hnumber
              omega
  next => exact refl _ _

theorem dropCue {screen number : Nat} (s : State) :
    Quiet (fun j => screenOf screen = some j) s (dropCueRule screen number s).1 := by
  unfold dropCueRule
  split
  next i hi =>
    split
    · split
      · exact refl _ _
      · dsimp only
        exact modCues hi (fun h => h.sublist removeCue_sublist) (Nat.le_trans removeCue_sublist.length_le (Nat.le_add_right _ _))
    · exact refl _ _
  next => exact refl _ _

theorem clearCues {screen : Nat} (s : State) :
    Quiet (fun j => screenOf screen = some j) s (clearCuesRule screen s).1 := by
  unfold clearCuesRule
  split
  next i hi => exact modCues (f := fun _ => []) hi (fun h => h.sublist (List.nil_sublist _)) (Nat.zero_le _)
  next => exact refl _ _

theorem fire {screen number : Nat} (s : State) :
    Quiet (fun j => screenOf screen = some j) s (fireRule screen number s).1 := by
  unfold fireRule
  split
  next i hi =>
    split
    · split
      · exact refl _ _
      · split
        · exact setImmediate hi
        · exact refl _ _
    · exact refl _ _
  next => exact refl _ _

theorem fireActions {screen : Nat} {actions : List RawAction} (s : State) :
    Quiet (fun j => screenOf screen = some j) s (fireActionsRule screen actions s).1 := by
  unfold fireActionsRule
  split
  next i hi =>
    split
    · exact refl _ _
    · split
      · exact setImmediate hi
      · exact refl _ _
  next => exact refl _ _

/-! ### The equaliser's requests and the layout -/

theorem selectPreset {screen preset : Nat} (s : State) :
    Quiet (fun j => screenOf screen = some j) s (selectPresetRule screen preset s).1 := by
  unfold selectPresetRule
  split
  next i target hi _ =>
    split
    · exact refl _ _
    · dsimp only
      split
      · exact refl _ _
      · exact of_work .select hi
  next => exact refl _ _

theorem setLayout {screen : Nat} {mask : Byte} {topology delay : Nat} (s : State) :
    Quiet (fun j => screenOf screen = some j) s (setLayoutRule screen mask topology delay s).1 := by
  unfold setLayoutRule
  split
  next i top hi _ =>
    split
    · dsimp only
      split
      · exact refl _ _
      · split
        · exact refl _ _
        next hidle =>
          split
          next hfits =>
            rw [ne_eq, Classical.not_not] at hidle
            refine trans (t := s.modEqualiser i fun e => { e with chains := s.relayout i mask })
              (of_work (.modEqualiser rfl) hi) (modScreen_of hi ?_ (BoundOnce.modScreen fun _ => rfl) (CuesInv.modScreen rfl)
                (BandInv.relayout ?_ ?_))
            · exact { Screen.Lawful.refl _ with }
            · simpa using hidle
            · have hactive : ((s.modEqualiser i fun e => { e with chains := s.relayout i mask }).scr i).equaliser.active =
                  (s.scr i).equaliser.active := by simp
              have hfree : (s.modEqualiser i fun e => { e with chains := s.relayout i mask }).bandsFree = s.bandsFree :=
                State.bandsFree_congr rfl fun j => by
                  rw [State.modEqualiser, State.scr_modScreen]
                  split
                  next h => exact h ▸ rfl
                  next => rfl
              rw [hactive, hfree, State.requirement_modEqualiser]
              exact hfits
          next => exact refl _ _
    · exact refl _ _
  next => exact refl _ _

/-- A library slot that no screen names may change. -/
theorem library {p : PresetIx} {preset : Option Preset} (hunused : s.inUse p = false) :
    Quiet touched s { s with library := s.library.set p preset } :=
  ⟨⟨rfl, List.prefix_rfl, List.prefix_rfl, fun h => h, fun h => h, fun h => h, fun _ => .refl _, fun h => h,
    BandInv.library hunused, fun _ h => h, fun _ _ => rfl⟩, rfl, rfl, Nat.le_refl _⟩

theorem loadPreset {slot mode : Nat} {mask : Byte} {buses : List BusContents} (s : State) :
    Quiet touched s (loadPresetRule slot mode mask buses s).1 := by
  unfold loadPresetRule
  split
  · exact refl _ _
  · dsimp only
    split
    · exact refl _ _
    · split
      · exact refl _ _
      · split
        · exact refl _ _
        · split
          · exact refl _ _
          · split
            · exact refl _ _
            next hunused => exact library (by simpa using hunused)

theorem dropPreset {slot : Nat} (s : State) : Quiet touched s (dropPresetRule slot s).1 := by
  unfold dropPresetRule
  split
  · exact refl _ _
  · split
    · exact refl _ _
    next hunused => exact library (by simpa using hunused)

end Quiet

end Sys2Proof.Machine
end

section
/-! The requests of the lines, the event queue, the statistics and the resets, and the commands inside the part. -/

namespace Sys2Proof.Machine

/-! ### The seen list (R4) -/

section
variable {s : State} {entry : SeenEntry} {id : StreamId}

theorem SeenInv.moved (hentry : entry.streamId = id) (hmem : ∃ e ∈ s.seen, e.streamId = id) (h : SeenInv s) :
    SeenInv { s with seen := entry :: s.seen.filter (fun e => decide (e.streamId ≠ id)) } := by
  obtain ⟨hlength, hnodup⟩ := h
  obtain ⟨e, he, heid⟩ := hmem
  refine ⟨?_, ?_⟩
  · have hlt := (List.length_filter_lt_length_iff_exists (l := s.seen) (p := fun e => decide (e.streamId ≠ id))).mpr
      ⟨e, he, by simp [heid]⟩
    rw [List.length_cons]
    omega
  · refine List.nodup_cons.mpr ⟨fun hin => ?_, hnodup.sublist (List.filter_sublist.map _)⟩
    obtain ⟨c, hc, hcid⟩ := List.mem_map.mp hin
    have hne : c.streamId ≠ id := by simpa using (List.mem_filter.mp hc).2
    exact hne (hcid.trans hentry)

theorem SeenInv.pushed (hentry : entry.streamId = id) (hnew : ∀ e ∈ s.seen, e.streamId ≠ id) (h : SeenInv s) :
    SeenInv { s with seen := entry :: s.seen.take 7 } := by
  obtain ⟨-, hnodup⟩ := h
  refine ⟨?_, List.nodup_cons.mpr ⟨fun hin => ?_, hnodup.sublist ((List.take_sublist _ _).map _)⟩⟩
  · rw [List.length_cons, List.length_take]
    omega
  · obtain ⟨c, hc, hcid⟩ := List.mem_map.mp hin
    exact hnew c (List.mem_of_mem_take hc) (hcid.trans hentry)

end

/-- A slot that loses its blocks keeps the law of its buffer (R23). -/
theorem Slot.BufferInv.emptied {x : Slot} {accepted : Option PartTime} (h : x.BufferInv) :
    Slot.BufferInv { x with buffer := [], lastAccepted := accepted } := by
  refine ⟨h.1, ?_⟩
  cases x.expected <;> simp

/-! ### The law of a line (section 9.1) -/

theorem Line.inv_fresh {c : LineConfig} {x : Line} : (Line.fresh c x).Inv := by
  cases c with
  | input debounce edge action => simp [Line.fresh, Line.Inv]
  | output function invert => cases function <;> simp [Line.fresh, Line.Inv]

theorem Line.inv_reset {pin : Bool} : (Line.reset pin).Inv := by simp [Line.reset, Line.Inv]

theorem Line.Inv.pinTo {x : Line} {now : PartTime} {high : Bool} (h : x.Inv) : (Line.pinTo now high x).Inv := by
  cases hconfig : x.config with
  | input debounce edge action =>
    simp only [Line.Inv, hconfig] at h
    obtain ⟨hpulse, htimer⟩ := h
    simp only [Line.pinTo, hconfig]
    split
    · simp only [Line.Inv]
      exact ⟨hpulse, htimer⟩
    · simp only [Line.Inv]
      refine ⟨hpulse, ?_⟩
      split
      next heq => simp [heq]
      next hne => simpa using hne
  | output function invert =>
    simp only [Line.pinTo, hconfig]
    simp only [Line.Inv, hconfig] at h ⊢
    exact h

/-- A pulse that ends turns its CUE output OFF (R172). -/
theorem Line.Inv.pulseOver {x : Line} {i : ScreenIx} (hcue : x.cueScreen = some i) (h : x.Inv) :
    Line.Inv { x with level := false, pulse := none } := by
  rw [Line.inv_of_cue hcue] at h
  rw [Line.inv_of_cue (i := i) (by exact hcue)]
  exact ⟨h.1, fun hp => nomatch hp⟩

/-- An input whose debounce timer ends takes its raw level (R175). -/
theorem Line.Inv.debounced {x : Line} {debounce : Nat} {edge : EdgeSelect} {action : LineAction}
    (hconfig : x.config = .input debounce edge action) (h : x.Inv) :
    Line.Inv { x with level := x.raw, debounceTimer := none } := by
  simp only [Line.Inv, hconfig] at h ⊢
  exact ⟨h.1, by simp⟩

namespace Quiet

variable {touched : ScreenIx → Prop} {s t u : State} {i : ScreenIx} {l : LineIx}

/-! ### Requests of the lines -/

theorem setLine {line : Nat} {fields : RawLine} (s : State) : Quiet touched s (setLineRule line fields s).1 := by
  unfold setLineRule
  split
  · dsimp only
    exact modLine fun _ => Line.inv_fresh
  · exact refl _ _

theorem driveLine {line operation width : Nat} (s : State) : Quiet touched s (driveLineRule line operation width s).1 := by
  unfold driveLineRule
  split
  · split
    next hcue =>
      obtain ⟨i, hi⟩ := Option.isSome_iff_exists.mp hcue
      exact modLine (Line.operate_kept hi).law
    next => exact refl _ _
  · exact refl _ _

/-! ### Requests of the event queue and the statistics -/

theorem setPriority {kind priority : Nat} (s : State) : Quiet touched s (setPriorityRule kind priority s).1 := by
  unfold setPriorityRule
  split
  next p _ =>
    split
    · exact modQueue (f := fun q => { q with priorities := p }) (fun h => h) rfl
    · exact refl _ _
  next => exact refl _ _

theorem setAttention {threshold urgent : Nat} (s : State) : Quiet touched s (setAttentionRule threshold urgent s).1 := by
  unfold setAttentionRule
  split
  · exact modQueue (f := fun q => { q with threshold := threshold, urgent := urgent }) (fun h => h) rfl
  · exact refl _ _

theorem releaseEvents {n : Nat} (s : State) : Quiet touched s (releaseEventsRule n s).1 := by
  unfold releaseEventsRule
  split
  · refine modQueue (f := fun q => { q with records := q.records.drop n }) (fun h => ⟨?_, h.2⟩) rfl
    show (s.queue.records.drop n).length ≤ 256
    have hlength := h.1
    rw [List.length_drop]
    omega
  · exact refl _ _

theorem readStats {scope : Nat} (s : State) : Quiet touched s (readStatsRule scope s).1 := by
  unfold readStatsRule
  split
  · exact refl _ _
  · split
    · exact refl _ _
    · split <;> exact refl _ _

theorem hello (s : State) : Quiet touched s (helloRule s).1 := refl _ _

theorem query {screen : Nat} (s : State) : Quiet touched s (queryRule screen s).1 := by
  unfold queryRule
  split <;> exact refl _ _

/-- The snapshot of every screen copies and clears counters only. -/
theorem snapshotAll {on : Bool} (ht : ∀ i, touched i) : Quiet touched s (s.snapshotAll on) := by
  have hscr (j : ScreenIx) : (s.snapshotAll on).scr j = Screen.snapshotAt s.time on (s.scr j) := by
    simp [State.scr, State.snapshotAll]
  refine ⟨⟨rfl, List.prefix_rfl, List.prefix_rfl, fun h => h, fun h => h, ?_, ?_, ?_, ?_, fun _ h => h,
    fun j hj => absurd (ht j) hj⟩, rfl, rfl, Nat.le_refl _⟩
  · exact BoundOnce.congr fun j l => by rw [State.slot, hscr]; rfl
  · intro j
    rw [hscr]
    exact { Screen.Lawful.refl (s.scr j) with }
  · exact CuesInv.congr fun j => by rw [hscr]; rfl
  · exact BandInv.congr rfl fun j => by rw [hscr]; rfl

theorem snapshot {scope clear : Nat} (ht : ∀ i, touched i) (s : State) :
    Quiet touched s (snapshotRule scope clear s).1 := by
  unfold snapshotRule
  dsimp only
  split
  · exact modScreen (ht _) { Screen.Lawful.refl _ with } (fun _ => rfl) rfl rfl
  · split
    · exact snapshotAll ht
    · exact refl _ _
  · exact refl _ _

/-! ### SCREEN_RESET (R199) -/

theorem applyStopPolicy : Quiet (fun j => j = i) s (s.applyStopPolicy i) := of_work .applyStopPolicy rfl

end Quiet

/-! ### The blocks of a screen at their starting state -/

theorem Slot.restart_streamId {x : Slot} : x.restart.streamId = x.streamId := by
  unfold Slot.restart
  split
  next h => exact h.symm
  next h => exact h.symm

theorem Slot.restart_state {x : Slot} : x.restart.state = .empty ∨ x.restart.state = .waiting := by
  unfold Slot.restart
  split
  · exact .inl rfl
  · exact .inr rfl

theorem Slot.restart_rest {x : Slot} : x.restart.holding = false ∧ x.restart.expected = none ∧ x.restart.buffer = [] := by
  unfold Slot.restart
  split <;> exact ⟨rfl, rfl, rfl⟩

theorem Intake.slot_restart {k : Intake} {l : Letter} : k.restart.slot l = (k.slot l).restart := by
  cases l <;> rfl

theorem Slot.restart_not_playing {x : Slot} : x.restart.state ≠ .playing := by
  intro h
  rcases Slot.restart_state (x := x) with h' | h' <;> simp [h'] at h

theorem Gain.inv_restart {g : Gain} : g.restart.Inv := by
  refine ⟨?_, Nat.le_refl _, rfl, ?_⟩
  · show 70 ≤ 100
    decide
  · show (0 : Int) ≤ faderGain 100
    decide

theorem Screen.restart_lawful {c : Screen} : c.Lawful c.restart where
  intake := fun _ l => by
    show ((c.intake.restart.slot l).state = _ → _) ∧ _
    rw [Intake.slot_restart]
    refine ⟨fun h => absurd h Slot.restart_not_playing, fun h => ?_⟩
    have hslot : c.restart.intake.slot l = (c.intake.slot l).restart := Intake.slot_restart
    rw [hslot, Slot.restart_rest.1] at h
    cases h
  buffer := fun l _ => by
    show (c.intake.restart.slot l).BufferInv
    rw [Intake.slot_restart]
    exact Slot.bufferInv_empty Slot.restart_state Slot.restart_rest.2.1 Slot.restart_rest.2.2
  decoder := fun _ => Decoder.inv_changeFormat
  gain := fun _ => Gain.inv_restart
  meters := fun h => ⟨Nat.zero_le _, h.2.1, Nat.zero_le _, fun b => by
    constructor <;> simp [Screen.restart, Meters.restart, Meters.reset]⟩
  guard := fun h => ⟨h.1, Int.le_trans h.2.1 h.2.2, Int.le_refl 0⟩
  clock := fun _ _ => Nat.zero_le _

theorem State.requirement_none {s : State} {i : ScreenIx} : s.requirement i none = 0 := by
  simp [State.requirement, State.requirementOver, State.contents, sum_map_zero]

theorem BandInv.restart {s : State} {i : ScreenIx} (hs : BandInv s) : BandInv (s.modScreen i Screen.restart) := by
  refine BandInv.of_screen (s := s) (i := i) rfl (fun j hj => by rw [State.scr_modScreen_of_ne hj]) hs ?_ ?_
  · simp [State.bandsHeld, Screen.restart, Equaliser.reset, State.requirement_none]
  · intro hcut
    simp [Screen.restart, Equaliser.reset] at hcut

namespace Quiet

variable {touched : ScreenIx → Prop} {s t u : State} {i : ScreenIx}

theorem screenReset {screen : Nat} (s : State) :
    Quiet (fun j => screenOf screen = some j) s (screenResetRule screen s).1 := by
  unfold screenResetRule
  split
  next i hi =>
    refine trans (intakeWork (IntakeWork.endHolding.trans IntakeWork.endHolding) hi)
      (trans (modScreen_of hi Screen.restart_lawful (BoundOnce.modScreen fun l => ?_) (CuesInv.modScreen ?_)
        BandInv.restart) (of_work .applyStopPolicy hi))
    · exact (congrArg Slot.streamId Intake.slot_restart).trans Slot.restart_streamId
    · simp only [Screen.restart, restartCues, List.map_map]
      rfl
  next => exact refl _ _

/-! ### Packets and the LOST timeout -/

theorem modPartLive {f : PartCounters → PartCounters} : Quiet touched s (s.modPartLive f) :=
  of_rest rfl rfl rfl (fun _ h => h) (fun h => h) (fun h => h) rfl rfl rfl rfl

theorem noteSeen {id : StreamId} {source : Mac} {format : Format} : Quiet touched s (s.noteSeen id source format) := by
  have hseen {seen : List SeenEntry} (h : SeenInv s → SeenInv { s with seen := seen }) :
      Quiet touched s { s with seen := seen } := of_rest rfl rfl rfl (fun _ h => h) (fun h => h) h rfl rfl rfl rfl
  unfold State.noteSeen
  dsimp only
  split
  next hmem =>
    simp only [List.any_eq_true, decide_eq_true_eq] at hmem
    exact hseen (SeenInv.moved rfl hmem)
  next hmem =>
    simp only [List.any_eq_true, decide_eq_true_eq, not_exists, not_and] at hmem
    exact trans (hseen (SeenInv.pushed rfl hmem)) postAt

theorem lostTimeout {l : Letter} (ht : touched i) (hdue : s.lostDue i l = true) :
    Quiet touched s
      ((s.modSlot i l (fun x => { x with buffer := [], lastAccepted := none })).enterSlotState i l .lost) := by
  have hstate : (s.slot i l).state = .filling ∨ (s.slot i l).state = .ready ∨ (s.slot i l).state = .starved := by
    unfold State.lostDue at hdue
    cases h : (s.slot i l).state <;> simp_all
  have hexpects : (s.slot i l).state.expects := by rcases hstate with h | h | h <;> simp [h, SlotState.expects]
  have hplay : (s.slot i l).state ≠ .playing := by rcases hstate with h | h | h <;> simp [h]
  refine intakeWork (IntakeWork.trans (IntakeWork.modSlot ⟨rfl, .inl, fun h => .inr ⟨h, hplay⟩, fun h => h.emptied⟩)
    (IntakeWork.enterSlotState (fun h => nomatch h) ?_ ?_)) ht
  · intro _ h
    rw [State.slot_modSlot, if_pos ⟨rfl, rfl⟩] at h
    exact absurd h hplay
  · rw [State.slot_modSlot, if_pos ⟨rfl, rfl⟩]
    exact iff_of_true ⟨fun h => (nomatch h), fun h => (nomatch h)⟩ hexpects

end Quiet

end Sys2Proof.Machine
end

section
/-! Every command keeps the laws: the resets of the part, the port's commands and the edges, and then all 66 commands. The
obligations about what every step keeps are read off. -/

namespace Sys2Proof.Machine

/-! ### The part after power-on -/

section
variable {i : ScreenIx} {l : Letter}

theorem scr_reset : State.reset.scr i = Screen.reset := by
  simp [State.scr, State.reset]

theorem slot_reset : State.reset.slot i l = Slot.reset := by
  rw [State.slot, scr_reset]
  cases l <;> rfl

theorem Intake.inv_reset : Intake.reset.Inv := fun l => by
  cases l <;> exact ⟨fun h => (nomatch h), fun h => (nomatch h)⟩

theorem Slot.bufferInv_reset : Slot.reset.BufferInv := Slot.bufferInv_empty (.inl rfl) rfl rfl

theorem Decoder.inv_reset : Decoder.reset.Inv := Decoder.inv_changeFormat (d := Decoder.reset) (f := none)

theorem Gain.inv_reset : Gain.reset.Inv := Gain.inv_restart (g := Gain.reset)

theorem Meters.inv_reset : Meters.reset.Inv :=
  ⟨Nat.zero_le _, by decide, Nat.zero_le _, fun b => by constructor <;> simp [Meters.reset]⟩

theorem GuardBlock.inv_reset : GuardBlock.reset.Inv := by
  refine ⟨?_, ?_, Int.le_refl 0⟩ <;> simp [GuardBlock.reset]

theorem Clock.inv_reset : Clock.reset.Inv := fun _ => Nat.zero_le _

theorem seenInv_reset : SeenInv State.reset := ⟨Nat.zero_le _, List.nodup_nil⟩

theorem queueInv_reset : QueueInv State.reset := ⟨Nat.zero_le _, Nat.zero_le _⟩

theorem portInv_reset : PortInv State.reset :=
  portInv_iff.mpr ⟨Nat.zero_le _, by decide, fun _ => Nat.le_refl 1⟩

/-- A part whose screens are those of power-on binds no stream, lists no cue and holds no band. -/
theorem boundOnce_of_reset {s : State} (h : ∀ i, s.scr i = Screen.reset) : BoundOnce s := by
  intro i l j m hne
  rw [State.slot, h] at hne
  cases l <;> exact absurd rfl hne

theorem cuesInv_of_reset {s : State} (h : ∀ i, s.scr i = Screen.reset) : CuesInv s := by
  refine cuesInv_iff.mpr ⟨fun i => ?_, ?_⟩
  · rw [h]
    exact ⟨List.Pairwise.nil, List.nodup_nil⟩
  · simp [State.cuesHeld, h, Screen.reset, sum_map_zero]

theorem bandInv_of_reset {s : State} (h : ∀ i, s.scr i = Screen.reset) : BandInv s := by
  refine bandInv_iff.mpr ⟨?_, fun i hcut => ?_⟩
  · have hheld : s.bandsHeld = fun _ => 0 := by
      funext i
      simp [State.bandsHeld, h, Screen.reset, Equaliser.reset, State.requirement_none]
    simp [State.bandsHeldInAll, hheld, sum_map_zero]
  · simp [h, Screen.reset, Equaliser.reset] at hcut

/-- Whatever a screen was, one at its power-on values keeps the laws. -/
theorem Screen.lawful_reset {c : Screen} : c.Lawful Screen.reset where
  intake := fun _ => Intake.inv_reset
  buffer := fun l _ => by cases l <;> exact Slot.bufferInv_reset
  decoder := fun _ => Decoder.inv_reset
  gain := fun _ => Gain.inv_reset
  meters := fun _ => Meters.inv_reset
  guard := fun _ => GuardBlock.inv_reset
  clock := fun _ => Clock.inv_reset

theorem line_reset {l : LineIx} : (State.reset.line l).Inv := by
  simp [State.line, State.reset, Line.inv_reset]

end

/-! ### The resets of the part -/

section
variable {touched : ScreenIx → Prop} {s t u : State}

theorem Quiet.releaseHolding (ht : ∀ i, touched i) : Quiet touched s s.releaseHolding := by
  have hfold (slots : List (ScreenIx × Letter)) (s : State) :
      Quiet touched s (slots.foldl (fun s p => s.endHolding p.1 p.2) s) := by
    induction slots generalizing s with
    | nil => exact .refl _ _
    | cons p rest ih => exact (Quiet.intakeWork .endHolding (ht p.1)).trans (ih _)
  exact hfold allSlots s

theorem scr_restartWith {library : Vector (Option Preset) 32} {i : ScreenIx} :
    (s.restartWith library).scr i = Screen.reset := scr_reset (i := i)

theorem StepLaws.restartWith {library : Vector (Option Preset) 32} (ht : ∀ i, touched i) :
    StepLaws touched s (s.restartWith library) where
  pending := rfl
  control := List.prefix_rfl
  pace := List.prefix_rfl
  queue := fun _ => queueInv_reset
  seen := fun _ => seenInv_reset
  bound := fun _ => boundOnce_of_reset fun _ => scr_restartWith
  screens := fun i => scr_restartWith ▸ Screen.lawful_reset
  cues := fun _ => cuesInv_of_reset fun _ => scr_restartWith
  bands := fun _ => bandInv_of_reset fun _ => scr_restartWith
  lines := fun l _ => by
    have hline : (s.restartWith library).line l = Line.reset (s.line l).pin := by
      simp [State.line, State.restartWith]
    rw [hline]
    exact Line.inv_reset
  others := fun j hj => absurd (ht j) hj
  port := fun _ => portInv_reset

theorem StepLaws.trans (h : StepLaws touched s t) (h' : StepLaws touched t u) : StepLaws touched s u :=
  ⟨h.toLaws.trans h'.toLaws, h'.port ∘ h.port⟩

theorem StepLaws.refl (touched : ScreenIx → Prop) (s : State) : StepLaws touched s s := (Quiet.refl touched s).step

theorem StepLaws.restart {library : Vector (Option Preset) 32} (ht : ∀ i, touched i) :
    StepLaws touched s (s.releaseHolding.restartWith library) :=
  (Quiet.releaseHolding ht).step.trans (.restartWith ht)

/-- RESET's reply is placed, and service stops (R198). -/
theorem StepLaws.reset {q : Req} :
    StepLaws touched s (s.serve (.reset q) q 0x26 (refuse .badArg)
      (fun s => (s.modPort (fun p => { p with phase := .resetServed }), answer .ok []))) :=
  .serve (Laws.modPort (f := fun p => { p with phase := .resetServed })) rfl (fun _ h => nomatch h) State.claim_le

/-- READ_EVENTS ends an attention, so its notice claims a place again (R183). -/
theorem StepLaws.readEvents {q : Req} {n : Nat} :
    StepLaws touched s (s.serve (.readEvents q n) q 0x20 (refuse .badArg) (readEventsRule n)) := by
  have hrule (u : State) : (readEventsRule n u).1 = u ∨
      (readEventsRule n u).1 = u.modQueue (fun q => { q with attention := false }) := by
    unfold readEventsRule
    split
    · exact .inr rfl
    · exact .inl rfl
  have hlaws (u : State) : Laws touched u (u.modQueue (fun q => { q with attention := false })) :=
    ⟨rfl, List.prefix_rfl, List.prefix_rfl, fun h => h, fun h => h, fun h => h, fun _ => .refl _, fun h => h, fun h => h,
      fun _ h => h, fun _ _ => rfl⟩
  rcases hrule s.beginService with h | h
  · refine .serve (by rw [h]; exact .refl _ _) (by rw [h]; rfl) (fun hphase => ?_) (by rw [h]; exact State.claim_le)
    rw [h]
    show s.port.phase ≠ .starting
    simp [hphase]
  · refine .serve (by rw [h]; exact hlaws _) (by rw [h]; rfl) (fun hphase => ?_) (by rw [h]; exact State.claim_le)
    rw [h]
    show s.port.phase ≠ .starting
    simp [hphase]

/-! ### The receiver and the sender -/

/-- A change of the port that keeps its law. -/
theorem StepLaws.modPort {f : Port → Port} (h : PortInv s → PortInv (s.modPort f)) : StepLaws touched s (s.modPort f) :=
  ⟨.modPort, h⟩

theorem StepLaws.offerFrame {f : Frame} : StepLaws touched s (s.offerFrame f) := by
  unfold State.offerFrame
  split
  next hheld =>
    refine .modPort fun h => ⟨?_, h.2⟩
    show (s.port.holding ++ [f]).length ≤ 4
    rw [List.length_append, List.length_singleton]
    omega
  next =>
    split
    next hroom =>
      refine .modPort fun h => ?_
      obtain ⟨hphase, hpath⟩ := hroom
      have hclaim := State.claim_le (s := s)
      have hpush := State.claim_pushPath (s := s) (f := replyFrame f.tag f.kind (refuse .busy))
      refine portInv_iff.mpr ⟨h.1, ?_, fun hstarting => ?_⟩
      · exact Nat.le_trans (Nat.le_of_eq hpush) (by omega)
      · exact absurd (hphase.symm.trans hstarting) (fun h => nomatch h)
    next => exact Quiet.modPartLive.step

theorem StepLaws.received {bytes : List Byte} : StepLaws touched s (s.modPort (fun p => { p with received := bytes })) :=
  .modPort fun h => h

theorem StepLaws.receiveRounds {k : Nat} {bytes : List Byte} : StepLaws touched s (State.receiveRounds k bytes s) := by
  induction k generalizing bytes s with
  | zero => exact .received
  | succ k ih =>
    unfold State.receiveRounds
    split
    · exact .received
    · exact ih
    · exact Quiet.modPartLive.step.trans ih
    · exact Quiet.modPartLive.step.trans ih
    · exact StepLaws.offerFrame.trans ih

theorem StepLaws.receive {bytes : List Byte} : StepLaws touched s (s.receive bytes) := by
  unfold State.receive
  split
  · exact .refl _ _
  · exact (StepLaws.modPort fun h => h).trans .receiveRounds

theorem StepLaws.ready (h : s.port.phase = .starting) :
    StepLaws touched s ((s.modPort (fun p => { p with phase := .accepting, received := [] })).pushPath readyNotice) := by
  refine ⟨Laws.modPort.trans .modPort, fun hport => ?_⟩
  obtain ⟨hheld, -, hstarting⟩ := portInv_iff.mp hport
  refine portInv_iff.mpr ⟨hheld, ?_, fun hphase => nomatch hphase⟩
  rw [State.claim_pushPath]
  have hclaim : (s.modPort (fun p => { p with phase := .accepting, received := [] })).claim = s.claim := rfl
  have hone := hstarting h
  omega

theorem StepLaws.transmit {f : Frame} {rest : List Frame} (h : s.port.path = f :: rest) :
    StepLaws touched s
      { s.modPort (fun p => { p with path := rest }) with controlOut := s.controlOut ++ [frameBytes f] } := by
  refine ⟨⟨rfl, List.prefix_append _ _, List.prefix_rfl, fun h => h, fun h => h, fun h => h, fun _ => .refl _, fun h => h,
    fun h => h, fun _ h => h, fun _ _ => rfl⟩, fun hport => ?_⟩
  obtain ⟨hheld, hclaim, hstarting⟩ := portInv_iff.mp hport
  have hless : State.claim { s.modPort (fun p => { p with path := rest }) with
      controlOut := s.controlOut ++ [frameBytes f] } + 1 = s.claim := by
    rw [State.claim, State.claim, h, List.length_cons]
    exact (Nat.add_right_comm _ _ _).symm
  exact portInv_iff.mpr ⟨hheld, by omega, fun hphase => by have := hstarting hphase; omega⟩

/-! ### Edges -/

theorem Quiet.mono {touched' : ScreenIx → Prop} (h : Quiet touched s t) (hle : ∀ j, touched j → touched' j) :
    Quiet touched' s t :=
  ⟨{ h.toLaws with others := fun j hj => h.others j fun hmem => hj (hle j hmem) }, h.holding, h.phase, h.claim⟩

theorem Quiet.foldl {α : Type} {f : State → α → State} (h : ∀ t a, Quiet touched t (f t a)) (l : List α) :
    Quiet touched s (l.foldl f s) := by
  induction l generalizing s with
  | nil => exact .refl _ _
  | cons a rest ih => exact (h s a).trans ih

theorem Work.runTriggers {i : ScreenIx} {l : LineIx} {rising : Bool} : Work i s (s.runTriggers i l rising) := by
  have hstep {p : Bool} {k : ClockCommand} {u : State} :
      Work i u (if p then u.clockCommand i k (.contact l) else u) := by
    split
    · exact .clockCommand
    · exact .refl _ _
  unfold State.runTriggers
  dsimp only
  exact hstep.trans (hstep.trans hstep)

theorem Work.runLineAction {l : LineIx} {a : LineAction} {i : ScreenIx} (h : a.screen = some i) :
    Work i s (s.runLineAction l a).1 := by
  cases a with
  | none => cases h
  | start j =>
    cases h
    exact Work.clockCommand (k := .start) (cause := .contact l)
  | stop j =>
    cases h
    exact Work.clockCommand (k := .stop) (cause := .contact l)
  | reload j =>
    cases h
    exact Work.clockCommand (k := .reload (s.scr i).clock.reloadPosition) (cause := .contact l)
  | capture j =>
    cases h
    exact Work.modClock
      (f := fun c => { c with capturePrevious := c.captureCurrent, captureCurrent := some c.position }) fun h => h
  | fire j n =>
    cases h
    unfold State.runLineAction State.offerCue
    dsimp only
    split
    · exact .setImmediate
    · exact .refl _ _

theorem Quiet.handEdge {l : LineIx} {rising : Bool} {a : LineAction} (ht : ∀ i, touched i) :
    Quiet touched s (s.handEdge l rising a) := by
  unfold State.handEdge
  refine Quiet.trans ?_ (foldl (fun t i => of_work .runTriggers (ht i)) _)
  unfold State.namedEdge
  dsimp only
  split
  next hnone =>
    cases a <;> first
      | exact .postAt
      | cases hnone
  next i hscreen => exact (of_work ((Work.runLineAction hscreen).trans .runTriggers) (ht i)).trans .postAt

theorem Quiet.debounceEnds {l : LineIx} (ht : ∀ i, touched i) (hdue : s.debounceDue l = true) :
    Quiet touched s (s.debounceEnds l) := by
  unfold State.debounceDue at hdue
  unfold State.debounceEnds
  split at hdue
  next debounce edge action expires hconfig htimer =>
    have hline : Quiet touched s (s.modLine l fun x => { x with level := x.raw, debounceTimer := none }) :=
      .modLine fun h => h.debounced hconfig
    simp only [hconfig]
    split
    · exact hline.trans (.handEdge ht)
    · exact hline
  next => cases hdue

end

/-! ### All commands -/

theorem Quiet.programFrame {touched : ScreenIx → Prop} {s : State} {dest : Mac} {etherType : BitVec 16} {source : Mac}
    {payload : List Byte} (ht : ∀ i, touched i) : Quiet touched s (s.programFrame dest etherType source payload) := by
  unfold State.programFrame
  split
  · split
    · exact .modPartLive
    · split
      · exact .intakeWork .arrive (ht _)
      · dsimp only
        split
        · exact Quiet.modPartLive.trans .noteSeen
        · exact .modPartLive
  · exact .refl _ _

/-- The screens a command may reach: the one it names, or any for a command that reaches more. -/
def reaches (c : Instr) (j : ScreenIx) : Prop := c.reachesScreens ∨ c.onlyScreen = some j

/-- An event inside a boundary is that boundary, or nothing. -/
theorem StepLaws.boundaryIf {touched : ScreenIx → Prop} {s : State} {i : ScreenIx} {p : Prop} [Decidable p]
    (ht : touched i) : StepLaws touched s (if p then s.boundary i else s) := by
  split
  · exact (Quiet.boundary ht).step
  · exact .refl _ _

/-- Every command answers a next state, and keeps the laws on its way. -/
theorem exec_laws (c : Instr) (s : State) : ∃ t, exec c s = .next t ∧ StepLaws (reaches c) s t := by
  cases c
  case bind => exact ⟨_, rfl, .served fun u => (Quiet.bind u).mono fun _ h => .inr h⟩
  case unbind => exact ⟨_, rfl, .served fun u => (Quiet.unbind u).mono fun _ h => .inr h⟩
  case setIntake => exact ⟨_, rfl, .served fun u => (Quiet.setIntake u).mono fun _ h => .inr h⟩
  case setSource => exact ⟨_, rfl, .served fun u => (Quiet.setSource u).mono fun _ h => .inr h⟩
  case setLayout => exact ⟨_, rfl, .served fun u => (Quiet.setLayout u).mono fun _ h => .inr h⟩
  case setFormat => exact ⟨_, rfl, .served fun u => (Quiet.setFormat u).mono fun _ h => .inr h⟩
  case setFader => exact ⟨_, rfl, .served fun u => (Quiet.setFader u).mono fun _ h => .inr h⟩
  case setLimit => exact ⟨_, rfl, .served fun u => (Quiet.setLimit u).mono fun _ h => .inr h⟩
  case setTrim => exact ⟨_, rfl, .served fun u => (Quiet.setTrim u).mono fun _ h => .inr h⟩
  case setMute => exact ⟨_, rfl, .served fun u => (Quiet.setMute u).mono fun _ h => .inr h⟩
  case selectPreset => exact ⟨_, rfl, .served fun u => (Quiet.selectPreset u).mono fun _ h => .inr h⟩
  case setMeter => exact ⟨_, rfl, .served fun u => (Quiet.setMeter u).mono fun _ h => .inr h⟩
  case setAlarm => exact ⟨_, rfl, .served fun u => (Quiet.setAlarm u).mono fun _ h => .inr h⟩
  case ackAlarm => exact ⟨_, rfl, .served fun u => (Quiet.ackAlarm u).mono fun _ h => .inr h⟩
  case setGuard => exact ⟨_, rfl, .served fun u => (Quiet.setGuard u).mono fun _ h => .inr h⟩
  case setClock => exact ⟨_, rfl, .served fun u => (Quiet.setClock u).mono fun _ h => .inr h⟩
  case clock => exact ⟨_, rfl, .served fun u => (Quiet.clock u).mono fun _ h => .inr h⟩
  case setTrigger => exact ⟨_, rfl, .served fun u => (Quiet.setTrigger u).mono fun _ h => .inr h⟩
  case loadCue => exact ⟨_, rfl, .served fun u => (Quiet.loadCue u).mono fun _ h => .inr h⟩
  case dropCue => exact ⟨_, rfl, .served fun u => (Quiet.dropCue u).mono fun _ h => .inr h⟩
  case clearCues => exact ⟨_, rfl, .served fun u => (Quiet.clearCues u).mono fun _ h => .inr h⟩
  case fire => exact ⟨_, rfl, .served fun u => (Quiet.fire u).mono fun _ h => .inr h⟩
  case fireActions => exact ⟨_, rfl, .served fun u => (Quiet.fireActions u).mono fun _ h => .inr h⟩
  case screenReset => exact ⟨_, rfl, .served fun u => (Quiet.screenReset u).mono fun _ h => .inr h⟩
  case listSeen => exact ⟨_, rfl, .served fun u => Quiet.listSeen u⟩
  case loadPreset => exact ⟨_, rfl, .served fun u => Quiet.loadPreset u⟩
  case dropPreset => exact ⟨_, rfl, .served fun u => Quiet.dropPreset u⟩
  case readCapture => exact ⟨_, rfl, .served fun u => Quiet.readCapture u⟩
  case setLine => exact ⟨_, rfl, .served fun u => Quiet.setLine u⟩
  case driveLine => exact ⟨_, rfl, .served fun u => Quiet.driveLine u⟩
  case setPriority => exact ⟨_, rfl, .served fun u => Quiet.setPriority u⟩
  case setAttention => exact ⟨_, rfl, .served fun u => Quiet.setAttention u⟩
  case releaseEvents => exact ⟨_, rfl, .served fun u => Quiet.releaseEvents u⟩
  case readStats => exact ⟨_, rfl, .served fun u => Quiet.readStats u⟩
  case hello => exact ⟨_, rfl, .served fun u => Quiet.hello u⟩
  case query => exact ⟨_, rfl, .served fun u => Quiet.query u⟩
  case snapshot => exact ⟨_, rfl, .served fun u => Quiet.snapshot (fun _ => .inl trivial) u⟩
  case readEvents => exact ⟨_, rfl, .readEvents⟩
  case reset => exact ⟨_, rfl, .reset⟩
  case badKind =>
    refine ⟨_, rfl, ?_⟩
    split
    · exact .served fun u => .refl _ _
    · exact .refl _ _
  case controlFrame => exact ⟨_, rfl, .receive⟩
  case frameLengthDiscard =>
    refine ⟨_, rfl, ?_⟩
    split
    · exact .receive
    · exact .refl _ _
  case frameTimeout =>
    refine ⟨_, rfl, ?_⟩
    split
    · exact StepLaws.received.trans Quiet.modPartLive.step
    · exact .refl _ _
  case replyTransmit =>
    refine ⟨_, rfl, ?_⟩
    split
    · exact .refl _ _
    next h => exact .transmit h
  case ready =>
    refine ⟨_, rfl, ?_⟩
    split
    next h => exact .ready h
    next => exact .refl _ _
  case resetTakesEffect =>
    refine ⟨_, rfl, ?_⟩
    split
    · exact .restart fun _ => .inl trivial
    · exact .refl _ _
  case powerOn => exact ⟨_, rfl, .restart fun _ => .inl trivial⟩
  case resetInputRelease => exact ⟨_, rfl, .restart fun _ => .inl trivial⟩
  case audioPacket => exact ⟨_, rfl, (Quiet.programFrame fun _ => .inl trivial).step⟩
  case lostTimeout i l =>
    refine ⟨_, rfl, ?_⟩
    split
    next hdue => exact (Quiet.lostTimeout (.inr rfl) hdue).step
    next => exact .refl _ _
  case blockBoundary i => exact ⟨_, rfl, (Quiet.boundary (.inr rfl)).step⟩
  case clockEnd => exact ⟨_, rfl, .boundaryIf (.inr rfl)⟩
  case wrap => exact ⟨_, rfl, .boundaryIf (.inr rfl)⟩
  case flywheelHold => exact ⟨_, rfl, .boundaryIf (.inr rfl)⟩
  case crossfadeComplete => exact ⟨_, rfl, .boundaryIf (.inr rfl)⟩
  case cutSwap => exact ⟨_, rfl, .boundaryIf (.inr rfl)⟩
  case cutComplete => exact ⟨_, rfl, .boundaryIf (.inr rfl)⟩
  case intervalClose => exact ⟨_, rfl, .boundaryIf (.inr rfl)⟩
  case raiseDwellExpiry => exact ⟨_, rfl, .boundaryIf (.inr rfl)⟩
  case clearDwellExpiry => exact ⟨_, rfl, .boundaryIf (.inr rfl)⟩
  case remind => exact ⟨_, rfl, .boundaryIf (.inr rfl)⟩
  case guardReduceStep => exact ⟨_, rfl, .boundaryIf (.inr rfl)⟩
  case guardReleaseStep => exact ⟨_, rfl, .boundaryIf (.inr rfl)⟩
  case pinChange l high => exact ⟨_, rfl, (Quiet.modLine fun h => h.pinTo).step⟩
  case debounceExpiry l =>
    refine ⟨_, rfl, ?_⟩
    split
    next hdue => exact (Quiet.debounceEnds (fun _ => .inl trivial) hdue).step
    next => exact .refl _ _
  case pulseExpiry l =>
    refine ⟨_, rfl, ?_⟩
    split
    next hdue =>
      rw [State.pulseDue, Bool.and_eq_true] at hdue
      obtain ⟨i, hi⟩ := Option.isSome_iff_exists.mp hdue.1
      exact (Quiet.modLine fun h => h.pulseOver hi).step
    next => exact .refl _ _

/-- What holds of every command that answers a state. -/
theorem exec_next_laws {c : Instr} {s t : State} (h : exec c s = .next t) : StepLaws (reaches c) s t := by
  obtain ⟨u, hu, hlaws⟩ := exec_laws c s
  rw [hu] at h
  exact outcome_next_inj h ▸ hlaws

/-- What holds of every step. -/
theorem step_laws {s t : State} (h : step s = .next t) : ∃ u touched, StepLaws touched u t ∧
    (u = { s with pending := s.pending.tail } ∨ u = s.tick) := by
  unfold step at h
  split at h
  next => exact ⟨s.tick, fun _ => True, outcome_next_inj h ▸ .refl _ _, .inr rfl⟩
  next c rest hpending => exact ⟨_, _, exec_next_laws h, .inl (by rw [hpending]; rfl)⟩

end Sys2Proof.Machine
end

section
/-! What every step keeps, and that every command completes: the obligations read off the laws of all commands. -/

namespace Sys2Proof.Machine

/-! ### The laws of a step -/

section
variable {s t : State}

/-- A step is the command at the front on the queue's rest, or a millisecond of part time; neither start touches a law. -/
theorem step_keeps {P : State → Prop} (hpending : ∀ rest, P s → P { s with pending := rest }) (htick : P s → P s.tick)
    (hlaws : ∀ {u touched}, StepLaws touched u t → P u → P t) (hs : P s) (h : step s = .next t) : P t := by
  obtain ⟨u, touched, hu, rfl | rfl⟩ := step_laws h
  · exact hlaws hu (hpending _ hs)
  · exact hlaws hu (htick hs)

end

/-- Settles O53: a step keeps the queue's bounds, and the port's by the places that are taken on its reply path. -/
theorem queueAndPortKept : Obligations.QueueAndPortKept := by
  intro s t hqueue hport h
  exact ⟨step_keeps (P := QueueInv) (fun _ h => h) (fun h => h) (fun hlaws => hlaws.queue) hqueue h,
    step_keeps (P := PortInv) (fun _ h => h) (fun h => h) (fun hlaws => hlaws.port) hport h⟩

/-- Settles O54: the seen list, the intakes, the binding table and the buffers, each kept by itself. -/
theorem intakeKept : Obligations.IntakeKept := by
  refine ⟨fun s t hseen hintake h => ⟨?_, ?_⟩, fun s t hbound h => ?_, fun s t hbuffer h => ?_⟩
  · exact step_keeps (P := SeenInv) (fun _ h => h) (fun h => h) (fun hlaws => hlaws.seen) hseen h
  · exact step_keeps (P := fun u => ∀ i, (u.scr i).intake.Inv) (fun _ h => h) (fun h => h)
      (fun hlaws hu i => (hlaws.screens i).intake (hu i)) hintake h
  · exact step_keeps (P := BoundOnce) (fun _ h => h) (fun h => h) (fun hlaws => hlaws.bound) hbound h
  · exact step_keeps (P := fun u => ∀ i l, (u.slot i l).BufferInv) (fun _ h => h) (fun h => h)
      (fun hlaws hu i l => (hlaws.screens i).buffer l (hu i l)) hbuffer h

/-- Settles O55: the laws of the decoder, the gain stage, the meters and the guard of each screen. -/
theorem screenBlocksKept : Obligations.ScreenBlocksKept := by
  intro s t hblocks h
  refine step_keeps
    (P := fun u => ∀ i, (u.scr i).decoder.Inv ∧ (u.scr i).gain.Inv ∧ (u.scr i).meters.Inv ∧ (u.scr i).guard.Inv)
    (fun _ h => h) (fun h => h) (fun hlaws hu i => ?_) hblocks h
  obtain ⟨hdecoder, hgain, hmeters, hguard⟩ := hu i
  have hscreen := hlaws.screens i
  exact ⟨hscreen.decoder hdecoder, hscreen.gain hgain, hscreen.meters hmeters, hscreen.guard hguard⟩

/-- Settles O56: the law of each clock. -/
theorem clocksKept : Obligations.ClocksKept := fun _ _ hclocks h =>
  step_keeps (P := fun u => ∀ i, (u.scr i).clock.Inv) (fun _ h => h) (fun h => h)
    (fun hlaws hu i => (hlaws.screens i).clock (hu i)) hclocks h

/-- Settles O57: the law of the cue lists and their pool. -/
theorem cuesKept : Obligations.CuesKept := fun _ _ hcues h =>
  step_keeps (P := CuesInv) (fun _ h => h) (fun h => h) (fun hlaws => hlaws.cues) hcues h

/-- Settles O58: the law of the band pool. -/
theorem bandsKept : Obligations.BandsKept := fun _ _ hbands h =>
  step_keeps (P := BandInv) (fun _ h => h) (fun h => h) (fun hlaws => hlaws.bands) hbands h

/-- Settles O59: the law of each line. -/
theorem linesKept : Obligations.LinesKept := fun _ _ hlines h =>
  step_keeps (P := fun u => ∀ l, (u.line l).Inv) (fun _ h => h) (fun h => h)
    (fun hlaws hu l => hlaws.lines l (hu l)) hlines h

/-- Settles O2: every command answers a state, whose waiting commands and whose sent messages the laws speak of. -/
theorem everyCommandCompletes : Obligations.EveryCommandCompletes := by
  refine ⟨fun c s => ?_, fun s => ?_, fun c s t h => ?_⟩
  · obtain ⟨t, ht, hlaws⟩ := exec_laws c s
    exact ⟨t, ht, hlaws.pending⟩
  · unfold Safe step
    split
    · exact ⟨_, rfl⟩
    · obtain ⟨t, ht, -⟩ := exec_laws _ { s with pending := _ }
      exact ⟨t, ht⟩
  · have hlaws := exec_next_laws h
    exact ⟨hlaws.control, hlaws.pace⟩

/-- Settles O52: a command reaches the screens that the laws name for it. -/
theorem screensAreSeparate : Obligations.ScreensAreSeparate := fun _ _ _ j h hreaches honly =>
  (exec_next_laws h).others j fun hj => hj.elim hreaches honly

/-- Settles O60: the part after power-on, law by law. -/
theorem invariantsHoldAtReset : Obligations.InvariantsHoldAtReset := by
  refine ⟨queueInv_reset, portInv_reset, seenInv_reset, cuesInv_of_reset fun _ => scr_reset,
    bandInv_of_reset fun _ => scr_reset, fun l => line_reset, boundOnce_of_reset fun _ => scr_reset, fun i l => ?_,
    fun i => ?_⟩
  · rw [slot_reset]
    exact Slot.bufferInv_reset
  · rw [scr_reset]
    exact ⟨Intake.inv_reset, Decoder.inv_reset, Gain.inv_reset, Meters.inv_reset, GuardBlock.inv_reset, Clock.inv_reset⟩

/-- Settles O1: the two cases of a step. -/
theorem stepTakesFrontCommand : Obligations.StepTakesFrontCommand := by
  refine ⟨fun s c rest hpending => ?_, fun s hpending => ?_⟩
  · simp only [step, hpending]
  · simp only [step, hpending, State.tick]

end Sys2Proof.Machine
end

section
/-! Service of a request (section 11.2), said once for all 39 kinds: which rule a request is served by, and what its
service leaves. -/

namespace Sys2Proof.Machine

/-! ### The rule a request is served by -/

/-- The rule that a request's body follows; a command that is no request has none. -/
def ruleOf : Instr → State → State × List Byte
  | .bind _ screen slot id => bindRule screen slot id
  | .unbind _ screen slot => unbindRule screen slot
  | .setIntake _ screen start low high policy pacing => setIntakeRule screen start low high policy pacing
  | .setSource _ screen slot => setSourceRule screen slot
  | .listSeen _ discovery => listSeenRule discovery
  | .setLayout _ screen mask topology delay => setLayoutRule screen mask topology delay
  | .setFormat _ screen format => setFormatRule screen format
  | .setFader _ screen position ramp => setFaderRule screen position ramp
  | .setLimit _ screen position => setLimitRule screen position
  | .setTrim _ screen mask trim => setTrimRule screen mask trim
  | .setMute _ screen mask on => setMuteRule screen mask on
  | .loadPreset _ slot mode mask buses => loadPresetRule slot mode mask buses
  | .dropPreset _ slot => dropPresetRule slot
  | .selectPreset _ screen preset => selectPresetRule screen preset
  | .setMeter _ screen window calibration => setMeterRule screen window calibration
  | .setAlarm _ screen kind threshold hysteresis raise clear latch interval count => setAlarmRule screen kind threshold hysteresis raise clear latch interval count
  | .ackAlarm _ screen kind bus => ackAlarmRule screen kind bus
  | .setGuard _ screen enable step interval floor release => setGuardRule screen enable step interval floor release
  | .setClock _ screen mode length endMode pass flywheel => setClockRule screen mode length endMode pass flywheel
  | .clock _ screen command position => clockRule screen command position
  | .setTrigger _ screen entry line edge position => setTriggerRule screen entry line edge position
  | .readCapture _ screen => readCaptureRule screen
  | .loadCue _ screen number time condition actions => loadCueRule screen number time condition actions
  | .dropCue _ screen number => dropCueRule screen number
  | .clearCues _ screen => clearCuesRule screen
  | .fire _ screen number => fireRule screen number
  | .fireActions _ screen actions => fireActionsRule screen actions
  | .setLine _ line fields => setLineRule line fields
  | .driveLine _ line operation width => driveLineRule line operation width
  | .setPriority _ kind priority => setPriorityRule kind priority
  | .setAttention _ threshold urgent => setAttentionRule threshold urgent
  | .readEvents _ n => readEventsRule n
  | .releaseEvents _ n => releaseEventsRule n
  | .snapshot _ scope clear => snapshotRule scope clear
  | .readStats _ scope => readStatsRule scope
  | .hello _ => helloRule
  | .query _ screen => queryRule screen
  | .reset _ => fun s => (s.modPort (fun p => { p with phase := .resetServed }), answer .ok [])
  | .screenReset _ screen => screenResetRule screen
  | _ => fun s => (s, [])

/-- The payload of a BAD_ARG refusal: LOAD_CUE and FIRE_ACTIONS carry an index (log 22). -/
def badArgOf (kind : Byte) : List Byte := if kind = 0x17 ∨ kind = 0x1B then [0x02, 0x00] else [0x02]

section
variable {c : Instr} {q : Req} {kind : Byte} {s : State}

theorem exec_request (h : c.request = some (q, kind)) :
    exec c s = .next (s.serve c q kind (badArgOf kind) (ruleOf c)) := by
  cases c <;> cases h <;> rfl

/-- A request of the right length that is served now leaves what its rule leaves, and its reply. -/
theorem exec_served (h : c.request = some (q, kind)) (hserved : Served q c s) :
    exec c s =
      .next ((ruleOf c s.beginService).1.pushPath
        { tag := q.tag, kind := kind + 0x40, payload := (ruleOf c s.beginService).2 }) := by
  rw [exec_request h, State.serve_of_served hserved]
  rfl

/-- A served request whose rule gives a state and a payload. -/
theorem exec_served_of {t : State} {payload : List Byte} (h : c.request = some (q, kind)) (hserved : Served q c s)
    (hrule : ruleOf c s.beginService = (t, payload)) :
    exec c s = .next (t.pushPath { tag := q.tag, kind := kind + 0x40, payload := payload }) := by
  rw [exec_served h hserved, hrule]

end

/-- Settles O4: service with a wrong length, no service, and the service of an unserved kind. -/
theorem portAnswersByItself : Obligations.PortAnswersByItself := by
  refine ⟨fun c q kind s h hlength hserving => ?_, fun c q kind s h hserving => ?_, fun s tag kind hkind hserving => ?_⟩
  · rw [exec_request h, State.serve_badLength (State.serves_iff.mpr hserving) hlength]
    rfl
  · rw [exec_request h, State.serve_not (Bool.eq_false_iff.mpr (hserving ∘ State.serves_iff.mp))]
  · have hunserved : unserved kind = true := by
      rcases hkind with rfl | hkind
      · rfl
      · simp [unserved, hkind]
    show Host.Outcome.next _ = _
    rw [if_pos hunserved, State.serve_ok (State.serves_iff.mpr hserving) rfl]
    unfold badKindBase replyFrame
    split <;> rfl

end Sys2Proof.Machine
end

section
/-! Reading the fields of a request (section 11.4): what each reader makes of a code in its range, and that it reads
nothing else. -/

namespace Sys2Proof.Machine

/-! ### What a code reads as -/

@[simp] theorem screenOf_code {i : ScreenIx} : screenOf (i.val + 1) = some i := dif_pos (by omega)

@[simp] theorem lineOf_code {l : LineIx} : lineOf (l.val + 1) = some l := dif_pos (by omega)

@[simp] theorem busOf_code {b : Bus} : busOf b.val = some b := dif_pos b.isLt

@[simp] theorem presetOf_code {p : PresetIx} : presetOf (p.val + 1) = some p := dif_pos (by omega)

@[simp] theorem letterOf_code {l : Letter} : letterOf l.code = some l := by cases l <;> rfl

@[simp] theorem onOf_boolCode {b : Bool} : onOf (boolCode b) = some b := by cases b <;> rfl

@[simp] theorem alarmKindOf_code {k : AlarmKind} : alarmKindOf k.code = some k := by cases k <;> rfl

/-! ### A field that reads as something is in range -/

section
variable {n : Nat}

theorem isScreen_of_screenOf {i : ScreenIx} (h : screenOf n = some i) : isScreen n ∧ n = i.val + 1 := by
  unfold screenOf at h
  split at h
  next hn =>
    cases h
    exact ⟨hn, (Nat.sub_add_cancel hn.1).symm⟩
  next => cases h

theorem screenOf_of_isScreen (h : isScreen n) : ∃ i, screenOf n = some i ∧ n = i.val + 1 :=
  ⟨_, dif_pos h, (Nat.sub_add_cancel h.1).symm⟩

theorem screenOf_eq_none (h : ¬ isScreen n) : screenOf n = none := dif_neg h

theorem range_of_lineOf {l : LineIx} (h : lineOf n = some l) : 1 ≤ n ∧ n ≤ 20 := by
  refine Classical.byContradiction fun hn => ?_
  rw [lineOf_eq_none hn] at h
  cases h

theorem range_of_presetOf {p : PresetIx} (h : presetOf n = some p) : 1 ≤ n ∧ n ≤ 32 := by
  refine Classical.byContradiction fun hn => ?_
  rw [presetOf, dif_neg hn] at h
  cases h

theorem le_of_busOf {b : Bus} (h : busOf n = some b) : n ≤ 7 := by
  refine Classical.byContradiction fun hn => ?_
  rw [busOf, dif_neg (by omega)] at h
  cases h

theorem le_of_targetOf {t : Target} (h : targetOf n = some t) : n ≤ 32 := by
  unfold targetOf at h
  split at h
  next hn => omega
  next =>
    obtain ⟨p, hp, -⟩ := Option.map_eq_some_iff.mp h
    exact (range_of_presetOf hp).2

theorem le_of_lineOrNoneOf {l : Option LineIx} (h : lineOrNoneOf n = some l) : n ≤ 20 := by
  unfold lineOrNoneOf at h
  split at h
  next hn => omega
  next =>
    obtain ⟨l, hl, -⟩ := Option.map_eq_some_iff.mp h
    exact (range_of_lineOf hl).2

theorem le_of_letterOf {l : Letter} (h : letterOf n = some l) : n ≤ 1 := by
  unfold letterOf at h
  split at h <;> simp_all

theorem le_of_onOf {b : Bool} (h : onOf n = some b) : n ≤ 1 := by
  unfold onOf at h
  split at h <;> simp_all

theorem le_of_formatOf {f : Format} (h : formatOf n = some f) : n ≤ 4 := by
  unfold formatOf at h
  split at h <;> simp_all

theorem range_of_forcedOf {f : Option Format} (h : forcedOf n = some f) : n ≤ 4 ∨ n = 0xFE := by
  unfold forcedOf at h
  split at h
  next hn => exact .inr hn
  next =>
    obtain ⟨f, hf, -⟩ := Option.map_eq_some_iff.mp h
    exact .inl (le_of_formatOf hf)

theorem le_of_policyOf {p : UnderrunPolicy} (h : policyOf n = some p) : n ≤ 2 := by
  unfold policyOf at h
  split at h <;> simp_all

theorem le_of_topologyOf {t : Topology} (h : topologyOf n = some t) : n ≤ 1 := by
  unfold topologyOf at h
  split at h <;> simp_all

theorem code_of_topologyOf {t : Topology} (h : topologyOf n = some t) : n = t.code := by
  unfold topologyOf at h
  split at h <;> cases h <;> rfl

theorem code_of_alarmKindOf {k : AlarmKind} (h : alarmKindOf n = some k) : n = k.code := by
  unfold alarmKindOf at h
  split at h <;> cases h <;> rfl

theorem AlarmKind.code_le {k : AlarmKind} : k.code ≤ 3 := by cases k <;> decide

theorem le_of_clockModeOf {m : ClockMode} (h : clockModeOf n = some m) : n ≤ 1 := by
  unfold clockModeOf at h
  split at h <;> simp_all

theorem le_of_endModeOf {m : EndMode} (h : endModeOf n = some m) : n ≤ 1 := by
  unfold endModeOf at h
  split at h <;> simp_all

theorem le_of_edgeOf {e : EdgeSelect} (h : edgeOf n = some e) : n ≤ 2 := by
  unfold edgeOf at h
  split at h <;> simp_all

theorem le_of_stopPolicyOf {p : StopPolicy} (h : stopPolicyOf n = some p) : n ≤ 2 := by
  unfold stopPolicyOf at h
  split at h <;> simp_all

theorem range_of_clockCommandOf {position : Nat} {k : ClockCommand} (h : clockCommandOf n position = some k) :
    n ≤ 3 ∧ (n = 3 → position ≤ 4294967294) := by
  unfold clockCommandOf at h
  split at h
  · simp
  · simp
  · simp
  · split at h
    next hp => exact ⟨Nat.le_refl 3, fun _ => Nat.le_of_lt_succ hp⟩
    next => cases h
  · cases h

theorem range_of_lineOperationOf {width : Nat} {op : LineOperation} (h : lineOperationOf n width = some op) :
    n ≤ 3 ∧ (n = 3 → 10 ≤ width ∧ width ≤ 5000) := by
  by_cases hn : 3 ≤ n
  · refine Classical.byContradiction fun hrange => ?_
    rw [lineOperationOf_eq_none hn (fun ⟨h3, hw⟩ => hrange ⟨by omega, fun _ => hw⟩)] at h
    cases h
  · exact ⟨by omega, fun _ => by omega⟩

theorem cueNumberValid_iff : cueNumberValid n = true ↔ isCueNumber n := by
  simp [cueNumberValid, isCueNumber]

theorem range_of_alarmIdOf {k : AlarmKind} {id : AlarmId} (h : alarmIdOf k n = some id) : k = .clip ∨ k = .silence → n ≤ 7 := by
  cases k
  · simp
  · obtain ⟨b, hb, -⟩ := Option.map_eq_some_iff.mp h
    exact fun _ => le_of_busOf hb
  · obtain ⟨b, hb, -⟩ := Option.map_eq_some_iff.mp h
    exact fun _ => le_of_busOf hb
  · simp

end

theorem inRange_of_conditionOf {raw : RawCondition} {c : Option Condition} (h : conditionOf raw = some c) : raw.inRange := by
  cases raw with
  | absent => trivial
  | lineLevel line level =>
    simp only [conditionOf] at h
    split at h
    next l on hl hon => exact ⟨(range_of_lineOf hl).1, (range_of_lineOf hl).2, le_of_onOf hon⟩
    next => cases h
  | format code =>
    obtain ⟨f, hf, -⟩ := Option.map_eq_some_iff.mp h
    exact le_of_formatOf hf
  | playing slot =>
    obtain ⟨l, hl, -⟩ := Option.map_eq_some_iff.mp h
    exact le_of_letterOf hl
  | unknown kind => cases h

theorem range_of_lineActionOf {action screen cue : Nat} {a : LineAction} (h : lineActionOf action screen cue = some a) :
    action ≤ 5 ∧ (action ≠ 0 → isScreen screen) ∧ (action = 5 → isCueNumber cue) := by
  unfold lineActionOf at h
  split at h
  case h_1 => simp
  case h_6 =>
    split at h
    next hcue =>
      obtain ⟨i, hi, -⟩ := Option.map_eq_some_iff.mp h
      exact ⟨Nat.le_refl 5, fun _ => (isScreen_of_screenOf hi).1, fun _ => hcue⟩
    next => cases h
  case h_7 => cases h
  all_goals
    obtain ⟨i, hi, -⟩ := Option.map_eq_some_iff.mp h
    exact ⟨by omega, fun _ => (isScreen_of_screenOf hi).1, fun h5 => absurd h5 (by decide)⟩

theorem range_of_lineFunctionOf {function screen alarm stop : Nat} {f : LineFunction}
    (h : lineFunctionOf function screen alarm stop = some f) :
    function ≤ 3 ∧ isScreen screen ∧ (function = 0 → stop ≤ 2) ∧ (function = 1 → alarm ≤ 3) := by
  unfold lineFunctionOf at h
  split at h
  next i hi =>
    obtain ⟨p, hp, -⟩ := Option.map_eq_some_iff.mp h
    exact ⟨by omega, (isScreen_of_screenOf hi).1, fun _ => le_of_stopPolicyOf hp, fun h => (nomatch h)⟩
  next i hi =>
    obtain ⟨k, hk, -⟩ := Option.map_eq_some_iff.mp h
    exact ⟨by omega, (isScreen_of_screenOf hi).1, fun h => (nomatch h), fun _ => code_of_alarmKindOf hk ▸ AlarmKind.code_le⟩
  next i hi => exact ⟨by omega, (isScreen_of_screenOf hi).1, fun h => absurd h (by decide), fun h => absurd h (by decide)⟩
  next i hi => exact ⟨by omega, (isScreen_of_screenOf hi).1, fun h => absurd h (by decide), fun h => absurd h (by decide)⟩
  next => cases h

theorem inRange_of_lineConfigOf {raw : RawLine} {c : LineConfig} (h : lineConfigOf raw = some c) : raw.inRange := by
  cases raw with
  | input debounce edge action screen cue =>
    simp only [lineConfigOf] at h
    split at h
    next e a he ha =>
      split at h
      next hd =>
        obtain ⟨haction, hscreen, hcue⟩ := range_of_lineActionOf ha
        exact ⟨hd.1, hd.2, le_of_edgeOf he, haction, hscreen, hcue⟩
      next => cases h
    next => cases h
  | output function screen alarm invert stop =>
    simp only [lineConfigOf] at h
    split at h
    next f on hf hon =>
      obtain ⟨hfunction, hscreen, hstop, halarm⟩ := range_of_lineFunctionOf hf
      exact ⟨hfunction, hscreen, le_of_onOf hon, hstop, halarm⟩
    next => cases h
  | unknown direction => cases h

end Sys2Proof.Machine
end

section
/-! A request out of range is refused (section "Requests, replies and statuses"): each rule's own refusal, and then all of
them at once. -/

namespace Sys2Proof.Machine

section
variable {s : State} {q : Req} {n : Nat}

/-! ### Requests of the intake and the decoder -/

theorem bindRule_badArg {slot : Nat} {id : StreamId} (h : ¬ (isScreen n ∧ slot ≤ 1 ∧ id ≠ 0)) :
    bindRule n slot id s = (s, [0x02]) := by
  unfold bindRule
  split
  next i l hi hl => exact if_pos (Classical.not_not.mp fun hid => h ⟨(isScreen_of_screenOf hi).1, le_of_letterOf hl, hid⟩)
  next => rfl

theorem unbindRule_badArg {slot : Nat} (h : ¬ (isScreen n ∧ slot ≤ 1)) : unbindRule n slot s = (s, [0x02]) := by
  unfold unbindRule
  split
  next i l hi hl => exact absurd ⟨(isScreen_of_screenOf hi).1, le_of_letterOf hl⟩ h
  next => rfl

theorem setIntakeRule_badArg {start low high policy pacing : Nat}
    (h : ¬ (isScreen n ∧ 2 ≤ start ∧ start ≤ 32 ∧ 1 ≤ low ∧ low < start ∧ start < high ∧ high ≤ 63 ∧ policy ≤ 2 ∧
      pacing ≤ 1)) : setIntakeRule n start low high policy pacing s = (s, [0x02]) := by
  unfold setIntakeRule
  split
  next i p on hi hp hon =>
    refine if_neg fun ⟨h1, h2, h3, h4, h5, h6⟩ => h ?_
    exact ⟨(isScreen_of_screenOf hi).1, h1, h2, h3, h4, h5, h6, le_of_policyOf hp, le_of_onOf hon⟩
  next => rfl

theorem setSourceRule_badArg {slot : Nat} (h : ¬ (isScreen n ∧ slot ≤ 1)) : setSourceRule n slot s = (s, [0x02]) := by
  unfold setSourceRule
  split
  next i l hi hl => exact absurd ⟨(isScreen_of_screenOf hi).1, le_of_letterOf hl⟩ h
  next => rfl

theorem listSeenRule_badArg {discovery : Nat} (h : ¬ discovery ≤ 2) : listSeenRule discovery s = (s, [0x02]) := by
  unfold listSeenRule
  split
  next => exact absurd (Nat.zero_le 2) h
  next => exact absurd (by decide) h
  next => exact absurd (Nat.le_refl 2) h
  next => rfl

/-- What R28 asks of a layout. -/
theorem layoutValid_iff {mask : Byte} {top : Topology} {delay : Nat} :
    layoutValid mask top delay = true ↔
      delay ≤ 40 ∧ mask.getLsbD 0 = true ∧ mask.getLsbD 2 = true ∧
        (top.code = 0 → mask.getLsbD 6 = false ∧ mask.getLsbD 7 = false ∧ mask.getLsbD 4 = mask.getLsbD 5) ∧
        (top.code = 1 → mask.getLsbD 4 = true ∧ mask.getLsbD 5 = true ∧ mask.getLsbD 6 = true ∧ mask.getLsbD 7 = true) := by
  have hbus : busL.val = 0 ∧ busR.val = 2 ∧ busLS.val = 4 ∧ busRS.val = 5 ∧ busLRS.val = 6 ∧ busRRS.val = 7 := by decide
  cases top <;>
    simp only [layoutValid, hbus, Topology.code, Bool.and_eq_true, decide_eq_true_eq, Bool.not_eq_true', Nat.zero_ne_one,
      Nat.one_ne_zero, forall_const, false_imp_iff, true_and, and_true, and_assoc, and_left_comm]

theorem setLayoutRule_badArg {mask : Byte} {topology delay : Nat}
    (h : ¬ (Instr.setLayout q n mask topology delay).inRange) : setLayoutRule n mask topology delay s = (s, [0x02]) := by
  unfold setLayoutRule
  split
  next i top hi htop =>
    refine if_neg fun hvalid => h ?_
    obtain ⟨hdelay, hL, hR, hside, hrear⟩ := layoutValid_iff.mp hvalid
    rw [code_of_topologyOf htop] at *
    exact ⟨(isScreen_of_screenOf hi).1, by cases top <;> decide, hdelay, hL, hR, hside, hrear⟩
  next => rfl

theorem setFormatRule_badArg {format : Nat} (h : ¬ (isScreen n ∧ (format ≤ 4 ∨ format = 0xFE))) :
    setFormatRule n format s = (s, [0x02]) := by
  unfold setFormatRule
  split
  next i f hi hf => exact absurd ⟨(isScreen_of_screenOf hi).1, range_of_forcedOf hf⟩ h
  next => rfl

/-! ### Requests of the gain stage, the equaliser and the meters -/

theorem setFaderRule_badArg {position ramp : Nat} (h : ¬ (isScreen n ∧ position ≤ 100 ∧ ramp ≤ 60000)) :
    setFaderRule n position ramp s = (s, [0x02]) := by
  unfold setFaderRule
  split
  next i hi => exact if_neg fun hrange => h ⟨(isScreen_of_screenOf hi).1, hrange⟩
  next => rfl

theorem setLimitRule_badArg {position : Nat} (h : ¬ (isScreen n ∧ position ≤ 100)) :
    setLimitRule n position s = (s, [0x02]) := by
  unfold setLimitRule
  split
  next i hi => exact if_neg fun hrange => h ⟨(isScreen_of_screenOf hi).1, hrange⟩
  next => rfl

theorem setTrimRule_badArg {mask : Byte} {trim : Int} (h : ¬ isScreen n) : setTrimRule n mask trim s = (s, [0x02]) := by
  unfold setTrimRule
  rw [screenOf_eq_none h]
  rfl

theorem setMuteRule_badArg {mask : Byte} {on : Nat} (h : ¬ (isScreen n ∧ on ≤ 1)) :
    setMuteRule n mask on s = (s, [0x02]) := by
  unfold setMuteRule
  split
  next i b hi hb => exact absurd ⟨(isScreen_of_screenOf hi).1, le_of_onOf hb⟩ h
  next => rfl

theorem loadPresetRule_badArg {mode : Nat} {mask : Byte} {buses : List BusContents}
    (h : ¬ (Instr.loadPreset q n mode mask buses).inRange) : loadPresetRule n mode mask buses s = (s, [0x02]) := by
  unfold loadPresetRule
  split
  next => rfl
  next p hp =>
    dsimp only
    split
    next => rfl
    next hmask =>
      simp only [not_or, Nat.not_lt, ne_eq, Classical.not_not] at hmask
      obtain ⟨hmode, hmask, hlength⟩ := hmask
      refine if_pos (Classical.byContradiction fun hbuses => ?_)
      simp only [List.any_eq_true, Bool.or_eq_true, decide_eq_true_eq, not_exists, not_and, not_or, Nat.not_lt,
        Int.not_lt] at hbuses
      exact h ⟨(range_of_presetOf hp).1, (range_of_presetOf hp).2, hmode, hmask, hlength, fun c hc =>
        ⟨(hbuses c hc).1.1, (hbuses c hc).1.2, (hbuses c hc).2⟩⟩

theorem dropPresetRule_badArg (h : ¬ (1 ≤ n ∧ n ≤ 32)) : dropPresetRule n s = (s, [0x02]) := by
  unfold dropPresetRule presetOf
  rw [dif_neg h]
  rfl

theorem selectPresetRule_badArg {preset : Nat} (h : ¬ (isScreen n ∧ preset ≤ 32)) :
    selectPresetRule n preset s = (s, [0x02]) := by
  unfold selectPresetRule
  split
  next i t hi ht => exact absurd ⟨(isScreen_of_screenOf hi).1, le_of_targetOf ht⟩ h
  next => rfl

theorem setMeterRule_badArg {window : Nat} {calibration : Int} (h : ¬ (isScreen n ∧ 10 ≤ window ∧ window ≤ 6000)) :
    setMeterRule n window calibration s = (s, [0x02]) := by
  unfold setMeterRule
  split
  next i hi => exact if_neg fun hrange => h ⟨(isScreen_of_screenOf hi).1, hrange⟩
  next => rfl

/-! ### Requests of the alarms and the guard -/

theorem roundUpTen_le_iff {ms bound : Nat} : roundUpTen ms ≤ bound * 10 ↔ ms ≤ bound * 10 := by
  unfold roundUpTen
  omega

theorem thresholdsValid_iff {k : AlarmKind} {threshold hysteresis : Int} :
    thresholdsValid k threshold hysteresis = true ↔
      (k.code = 0 → 0 ≤ threshold ∧ threshold ≤ 1500 ∧ 0 ≤ hysteresis ∧ hysteresis ≤ 200) ∧
        (k.code = 1 → 1 ≤ threshold ∧ threshold ≤ 100) ∧ (k.code = 2 → 0 ≤ threshold ∧ threshold ≤ 1500) := by
  cases k <;> simp [thresholdsValid, AlarmKind.code, and_assoc]

theorem setAlarmRule_badArg {kind raise clear latch interval count : Nat} {threshold hysteresis : Int}
    (h : ¬ (Instr.setAlarm q n kind threshold hysteresis raise clear latch interval count).inRange) :
    setAlarmRule n kind threshold hysteresis raise clear latch interval count s = (s, [0x02]) := by
  unfold setAlarmRule
  split
  next i k on hi hk hon =>
    refine if_neg fun ⟨hthresholds, hraise, hclear, hinterval, hinterval', hcount⟩ => h ?_
    obtain ⟨hover, hclip, hsilence⟩ := thresholdsValid_iff.mp hthresholds
    rw [← code_of_alarmKindOf hk] at hover hclip hsilence
    exact ⟨(isScreen_of_screenOf hi).1, code_of_alarmKindOf hk ▸ AlarmKind.code_le, hover, hclip, hsilence,
      (roundUpTen_le_iff (bound := 60000)).mp hraise, (roundUpTen_le_iff (bound := 60000)).mp hclear, le_of_onOf hon,
      hinterval, hinterval', hcount⟩
  next => rfl

theorem ackAlarmRule_badArg {kind bus : Nat} (h : ¬ (isScreen n ∧ kind ≤ 3 ∧ (kind = 1 ∨ kind = 2 → bus ≤ 7))) :
    ackAlarmRule n kind bus s = (s, [0x02]) := by
  unfold ackAlarmRule
  split
  next i k hi hk =>
    split
    next id hid =>
      refine absurd ⟨(isScreen_of_screenOf hi).1, code_of_alarmKindOf hk ▸ AlarmKind.code_le, fun hkind => ?_⟩ h
      rw [code_of_alarmKindOf hk] at hkind
      exact range_of_alarmIdOf hid (by cases k <;> simp_all [AlarmKind.code])
    next => rfl
  next => rfl

theorem setGuardRule_badArg {enable step interval release : Nat} {floor : Int}
    (h : ¬ (Instr.setGuard q n enable step interval floor release).inRange) :
    setGuardRule n enable step interval floor release s = (s, [0x02]) := by
  unfold setGuardRule
  split
  next i on hi hon =>
    refine if_neg fun ⟨hstep, hstep', hfloor, hfloor', hinterval, hinterval', hrelease, hrelease'⟩ => h ?_
    have hinterval'' := (roundUpTen_le_iff (bound := 500)).mp hinterval'
    have hrelease'' := (roundUpTen_le_iff (bound := 6000)).mp hrelease'
    unfold roundUpTen at hinterval hrelease
    exact ⟨(isScreen_of_screenOf hi).1, le_of_onOf hon, hstep, hstep', by omega, hinterval'', hfloor, hfloor', by omega,
      hrelease''⟩
  next => rfl

/-! ### Requests of the clock -/

theorem setClockRule_badArg {mode length endMode pass flywheel : Nat}
    (h : ¬ (Instr.setClock q n mode length endMode pass flywheel).inRange) :
    setClockRule n mode length endMode pass flywheel s = (s, [0x02]) := by
  unfold setClockRule
  split
  next i m e hi hm he =>
    exact if_neg fun ⟨hlength, hpass, hflywheel⟩ =>
      h ⟨(isScreen_of_screenOf hi).1, le_of_clockModeOf hm, Nat.le_of_lt_succ hlength, le_of_endModeOf he, hpass, hflywheel⟩
  next => rfl

theorem clockRule_badArg {command position : Nat}
    (h : ¬ (isScreen n ∧ command ≤ 3 ∧ (command = 3 → position ≤ 4294967294))) :
    clockRule n command position s = (s, [0x02]) := by
  unfold clockRule
  split
  next i k hi hk => exact absurd ⟨(isScreen_of_screenOf hi).1, range_of_clockCommandOf hk⟩ h
  next => rfl

theorem setTriggerRule_badArg {entry line edge position : Nat}
    (h : ¬ (isScreen n ∧ entry ≤ 2 ∧ line ≤ 20 ∧ edge ≤ 2 ∧ (entry = 2 → position ≤ 4294967294))) :
    setTriggerRule n entry line edge position s = (s, [0x02]) := by
  unfold setTriggerRule
  split
  next i l e hi hl he =>
    have hrest (hentry : entry ≤ 2) (hposition : entry = 2 → position ≤ 4294967294) : False :=
      h ⟨(isScreen_of_screenOf hi).1, hentry, le_of_lineOrNoneOf hl, le_of_edgeOf he, hposition⟩
    dsimp only
    split
    next => exact (hrest (by decide) (fun h => (nomatch h))).elim
    next => exact (hrest (by decide) (fun h => absurd h (by decide))).elim
    next => exact if_neg fun hposition => hrest (Nat.le_refl 2) fun _ => Nat.le_of_lt_succ hposition
    next => rfl
  next => rfl

/-! ### Requests of the cue list -/

theorem loadCueRule_badArg {number time : Nat} {condition : RawCondition} {actions : List RawAction}
    (h : ¬ (isScreen n ∧ isCueNumber number ∧ time ≤ 4294967294 ∧ condition.inRange)) :
    loadCueRule n number time condition actions s = (s, [0x02, 0x00]) := by
  unfold loadCueRule
  split
  next i c hi hc =>
    refine if_pos (Classical.byContradiction fun hok => ?_)
    obtain ⟨hnumber, htime⟩ := not_or.mp hok
    exact h ⟨(isScreen_of_screenOf hi).1, cueNumberValid_iff.mp (Classical.not_not.mp hnumber), Nat.le_of_lt_succ (Classical.not_not.mp htime),
      inRange_of_conditionOf hc⟩
  next => rfl

theorem dropCueRule_badArg {number : Nat} (h : ¬ (isScreen n ∧ isCueNumber number)) :
    dropCueRule n number s = (s, [0x02]) := by
  unfold dropCueRule
  split
  next i hi => exact if_neg fun hnumber => h ⟨(isScreen_of_screenOf hi).1, cueNumberValid_iff.mp hnumber⟩
  next => rfl

theorem fireRule_badArg {number : Nat} (h : ¬ (isScreen n ∧ isCueNumber number)) :
    fireRule n number s = (s, [0x02]) := by
  unfold fireRule
  split
  next i hi => exact if_neg fun hnumber => h ⟨(isScreen_of_screenOf hi).1, cueNumberValid_iff.mp hnumber⟩
  next => rfl

/-! ### Requests of the lines, the queue and the statistics -/

theorem setLineRule_badArg {line : Nat} {fields : RawLine} (h : ¬ (1 ≤ line ∧ line ≤ 20 ∧ fields.inRange)) :
    setLineRule line fields s = (s, [0x02]) := by
  unfold setLineRule
  split
  next l c hl hc =>
    exact absurd ⟨(range_of_lineOf hl).1, (range_of_lineOf hl).2, inRange_of_lineConfigOf hc⟩ h
  next => rfl

theorem driveLineRule_out_of_range {line operation width : Nat}
    (h : ¬ (1 ≤ line ∧ line ≤ 20 ∧ operation ≤ 3 ∧ (operation = 3 → 10 ≤ width ∧ width ≤ 5000))) :
    driveLineRule line operation width s = (s, [0x02]) := by
  unfold driveLineRule
  split
  next l op hl hop =>
    exact absurd ⟨(range_of_lineOf hl).1, (range_of_lineOf hl).2, range_of_lineOperationOf hop⟩ h
  next => rfl

theorem Priorities.withKind_eq_none {p : Priorities} {kind priority : Nat} (h : ¬ (1 ≤ kind ∧ kind ≤ 8 ∧ kind ≠ 2)) :
    p.withKind kind priority = none := by
  unfold Priorities.withKind
  split <;> simp_all

theorem setPriorityRule_badArg {kind priority : Nat} (h : ¬ (1 ≤ kind ∧ kind ≤ 8 ∧ kind ≠ 2 ∧ priority ≤ 7)) :
    setPriorityRule kind priority s = (s, [0x02]) := by
  by_cases hkind : 1 ≤ kind ∧ kind ≤ 8 ∧ kind ≠ 2
  · obtain ⟨hlow, hhigh, hguard⟩ := hkind
    unfold setPriorityRule
    split
    next => exact if_neg fun hpriority => h ⟨hlow, hhigh, hguard, hpriority⟩
    next => rfl
  · unfold setPriorityRule
    rw [Priorities.withKind_eq_none hkind]
    rfl

theorem snapshotRule_badArg {scope clear : Nat} (h : ¬ ((isScreen scope ∨ scope = 0xFF) ∧ clear ≤ 1)) :
    snapshotRule scope clear s = (s, [0x02]) := by
  unfold snapshotRule
  dsimp only
  split
  next on i hon hi => exact absurd ⟨.inl (isScreen_of_screenOf hi).1, le_of_onOf hon⟩ h
  next on hon hi => exact if_neg fun hall => h ⟨.inr hall, le_of_onOf hon⟩
  next => rfl

theorem readStatsRule_badArg {scope : Nat} (h : ¬ (isScreen scope ∨ scope = 0xFE ∨ scope = 0xFF)) :
    readStatsRule scope s = (s, [0x02]) := by
  obtain ⟨hscreen, hpart, hall⟩ : ¬ isScreen scope ∧ scope ≠ 0xFE ∧ scope ≠ 0xFF := by
    simpa only [not_or] using h
  unfold readStatsRule
  rw [screenOf_eq_none hscreen]
  simp only [if_neg hpart, if_neg hall]
  rfl

end

/-- Out of its range, every request's rule refuses and changes nothing. -/
theorem ruleOf_out_of_range {c : Instr} {q : Req} {kind : Byte} {s : State} (hrequest : c.request = some (q, kind))
    (h : ¬ c.inRange) : ruleOf c s = (s, badArgOf kind) := by
  cases c <;> cases hrequest
  case bind => exact bindRule_badArg h
  case unbind => exact unbindRule_badArg h
  case setIntake => exact setIntakeRule_badArg h
  case setSource => exact setSourceRule_badArg h
  case listSeen => exact listSeenRule_badArg h
  case setLayout => exact setLayoutRule_badArg h
  case setFormat => exact setFormatRule_badArg h
  case setFader => exact setFaderRule_badArg h
  case setLimit => exact setLimitRule_badArg h
  case setTrim => exact setTrimRule_badArg h
  case setMute => exact setMuteRule_badArg h
  case loadPreset => exact loadPresetRule_badArg h
  case dropPreset => exact dropPresetRule_badArg h
  case selectPreset => exact selectPresetRule_badArg h
  case setMeter => exact setMeterRule_badArg h
  case setAlarm => exact setAlarmRule_badArg h
  case ackAlarm => exact ackAlarmRule_badArg h
  case setGuard => exact setGuardRule_badArg h
  case setClock => exact setClockRule_badArg h
  case clock => exact clockRule_badArg h
  case setTrigger => exact setTriggerRule_badArg h
  case readCapture => simp only [ruleOf, readCaptureRule, screenOf_eq_none h]; rfl
  case loadCue => exact loadCueRule_badArg h
  case dropCue => exact dropCueRule_badArg h
  case clearCues => simp only [ruleOf, clearCuesRule, screenOf_eq_none h]; rfl
  case fire => exact fireRule_badArg h
  case fireActions => simp only [ruleOf, fireActionsRule, screenOf_eq_none h]; rfl
  case setLine => exact setLineRule_badArg h
  case driveLine => exact driveLineRule_out_of_range h
  case setPriority => exact setPriorityRule_badArg h
  case setAttention => exact if_neg h
  case readEvents => exact if_neg h
  case releaseEvents => exact if_neg h
  case snapshot => exact snapshotRule_badArg h
  case readStats => exact readStatsRule_badArg h
  case hello => exact absurd trivial h
  case query => simp only [ruleOf, queryRule, screenOf_eq_none h]; rfl
  case reset => exact absurd trivial h
  case screenReset => simp only [ruleOf, screenResetRule, screenOf_eq_none h]; rfl

/-- A served request out of its range is refused, and changes nothing else. -/
theorem exec_refused {c : Instr} {q : Req} {kind : Byte} {s : State} (hserved : Served q c s)
    (hrequest : c.request = some (q, kind)) (h : ¬ c.inRange) :
    exec c s = .next (s.beginService.pushPath { tag := q.tag, kind := kind + 0x40, payload := badArgOf kind }) :=
  exec_served_of hrequest hserved (ruleOf_out_of_range hrequest h)

/-- Settles O5: the refusal of each rule, sent as the reply. -/
theorem outOfRangeIsRefused : Obligations.OutOfRangeIsRefused := fun _ _ _ _ hrequest h hserved =>
  exec_refused hserved hrequest h

end Sys2Proof.Machine
end

section
/-! The event queue's requests, its notice, the statistics, and the reply path (chapters 10 and 11). -/

namespace Sys2Proof.Machine

/-! ### Fields -/

theorem u8_eq {n : Nat} : u8 n = [BitVec.ofNat 8 n] := rfl

/-- A list of bytes, each its own entry. -/
theorem listField_eq_flatMap {α : Type} {l : List α} {f : α → List Byte} :
    listField (l.map f) = BitVec.ofNat 8 l.length :: l.flatMap f := by
  simp [listField, u8_eq, List.flatMap_def]

/-! ### The queue -/

/-- An admitted record sends the notice just when attention is due (R185). -/
theorem State.postAt_notice {s : State} {what : EventType} {screen : Option ScreenIx} {position : Option Nat}
    {detail : List Byte} (h : admits (s.queue.priorities.of what) s.queue.records.length = true) :
    if s.queue.attention = false ∧
        (s.queue.threshold ≤ s.queue.records.length + 1 ∨ s.queue.urgent ≤ s.queue.priorities.of what) then
      (s.postAt what screen position detail).queue.attention = true ∧
        (s.postAt what screen position detail).port.path = s.port.path ++ [attentionNotice]
    else
      (s.postAt what screen position detail).queue.attention = s.queue.attention ∧
        (s.postAt what screen position detail).port.path = s.port.path := by
  obtain ⟨hzero, -⟩ | ⟨-, -, notify, hnotify, hpost⟩ | ⟨-, hnot, -⟩ :=
    State.postAt_cases (s := s) what screen position detail
  · obtain ⟨hpos, -⟩ := admits_iff.mp h
    omega
  · rw [hpost]
    cases notify with
    | true =>
      rw [if_pos (hnotify.mp rfl)]
      exact ⟨Bool.or_true _, rfl⟩
    | false =>
      rw [if_neg fun hdue => Bool.false_ne_true (hnotify.mpr hdue)]
      exact ⟨Bool.or_false _, rfl⟩
  · rw [h] at hnot
    cases hnot

/-- Settles O12: an admitted record and its notice. -/
theorem attentionOncePerRead : Obligations.AttentionOncePerRead := by
  intro s what screen position detail hpos hroom hreserve
  exact State.postAt_notice (admits_iff.mpr ⟨hpos, hroom, hreserve⟩)

/-- A kind that has a priority of its own takes the new one; the others keep theirs (R182). -/
theorem Priorities.withKind_of_mem {p : Priorities} {kind priority : Nat} (h : 1 ≤ kind ∧ kind ≤ 8 ∧ kind ≠ 2) :
    p.withKind kind priority =
      some { alarm := if kind = 1 then priority else p.alarm, stream := if kind = 3 then priority else p.stream,
             decode := if kind = 4 then priority else p.decode, preset := if kind = 5 then priority else p.preset,
             cue := if kind = 6 then priority else p.cue, clock := if kind = 7 then priority else p.clock,
             contact := if kind = 8 then priority else p.contact } := by
  obtain ⟨hlow, hhigh, hguard⟩ := h
  have hkinds : kind = 1 ∨ kind = 3 ∨ kind = 4 ∨ kind = 5 ∨ kind = 6 ∨ kind = 7 ∨ kind = 8 := by omega
  rcases hkinds with rfl | rfl | rfl | rfl | rfl | rfl | rfl <;> rfl

/-- Settles O13: in range each request sets what it names; out of range it is refused. -/
theorem queueSettings : Obligations.QueueSettings := by
  refine ⟨fun s q kind priority hserved => ?_, fun s q threshold urgent hserved => ?_⟩
  · dsimp only
    split
    next hrange =>
      obtain ⟨hlow, hhigh, hguard, hpriority⟩ := hrange
      refine exec_served_of rfl hserved ?_
      simp only [ruleOf, setPriorityRule, Priorities.withKind_of_mem ⟨hlow, hhigh, hguard⟩, if_pos hpriority]
      rfl
    next hrange => exact exec_refused hserved rfl hrange
  · split
    next hrange => exact exec_served_of rfl hserved (if_pos (by simpa using hrange))
    next hrange => exact exec_refused hserved rfl fun h => hrange (by simpa [Instr.inRange] using h)

/-- A record as it is sent (section 11.4). -/
theorem EventRecord.bytes_eq {r : EventRecord} :
    r.bytes =
      [BitVec.ofNat 8 r.what.kindCode, BitVec.ofNat 8 r.what.subCode,
        match r.screen with | none => 0 | some i => BitVec.ofNat 8 (i.val + 1), if r.lost = 0 then 0 else 1] ++
      u32 r.time.toNat ++ u32 (r.position.getD 4294967295) ++ u16 r.lost ++
        BitVec.ofNat 8 r.detail.length :: r.detail := by
  have hscreen : BitVec.ofNat 8 ((r.screen.map ScreenIx.code).getD 0) =
      (match r.screen with | none => 0 | some i => BitVec.ofNat 8 (i.val + 1) : Byte) := by
    cases r.screen <;> rfl
  have hlost : BitVec.ofNat 8 (boolCode (decide (r.lost ≠ 0))) = (if r.lost = 0 then 0 else 1 : Byte) := by
    by_cases h : r.lost = 0 <;> simp [h, boolCode]
  simp only [EventRecord.bytes, flag_eq, u8_eq, positionField, hscreen, hlost, Config.absentPosition, List.append_assoc,
    List.cons_append, List.nil_append]

/-- Settles O14: the two requests in their ranges, and a record's layout. -/
theorem readAndReleaseEvents : Obligations.ReadAndReleaseEvents := by
  refine ⟨fun s q n hserved => ?_, fun s q n hserved => ?_, fun r => ?_⟩
  · split
    next hrange =>
      refine exec_served_of rfl hserved ((if_pos hrange).trans ?_)
      rw [listField_eq_flatMap, List.length_take]
      simp only [answer, Status.code, List.cons_append, List.append_assoc]
      rfl
    next hrange => exact exec_refused hserved rfl hrange
  · split
    next hrange => exact exec_served_of rfl hserved (if_pos hrange)
    next hrange => exact exec_refused hserved rfl hrange
  · dsimp only
    rw [EventRecord.bytes_eq]
    cases r.what <;> rfl

/-! ### Statistics -/

theorem Counters.fields_eq {c : Counters} :
    c.fields =
      [c.packetsAccepted, c.late, c.duplicate, c.resyncs, c.blocksConcealed, c.underruns, c.failovers, c.clipBlocks,
        c.cuesFired, c.cuesPassed, c.alarmRaises].flatMap u32 := by
  simp [Counters.fields]

theorem PartCounters.fields_eq {c : PartCounters} :
    c.fields = [c.framesDiscarded, c.packetsUnmatched, c.packetsMalformed].flatMap u32 := by
  simp [PartCounters.fields]

/-- The screens in their order. -/
theorem State.screens_toList {s : State} : s.screens.toList = (List.finRange 8).map s.scr := by
  refine List.ext_getElem (by simp) fun k h h' => ?_
  simp [State.scr]

/-- Settles O15: the copy of a screen, of the part and its screens, and the reading of the shadows. -/
theorem snapshotCopiesInOneStep : Obligations.SnapshotCopiesInOneStep := by
  refine ⟨fun s q i clear hserved => ?_, fun s q clear hserved => ?_, fun s q => ⟨fun i hserved => ?_, fun hserved => ?_,
    fun hserved => ?_⟩⟩
  · refine exec_served_of rfl hserved ?_
    simp only [ruleOf, snapshotRule, onOf_boolCode, screenOf_code]
    rfl
  · have hrule : ruleOf (.snapshot q 255 (boolCode clear)) s.beginService =
        (s.beginService.snapshotAll clear, [0x00, 0xFF, 0x01] ++ u32 s.time.toNat) := by
      simp only [ruleOf, snapshotRule, onOf_boolCode, screenOf_eq_none (n := 255) (by simp [isScreen]), if_true]
      rfl
    refine ⟨_, exec_served_of rfl hserved hrule, fun i => ?_, rfl, rfl, rfl, rfl⟩
    simp [State.pushPath, State.modPort, State.scr, State.snapshotAll, Screen.snapshotAt]
  · refine exec_served_of rfl hserved ?_
    simp only [ruleOf, readStatsRule, screenOf_code, Screen.statsFields, Counters.fields_eq]
    rfl
  · refine exec_served_of rfl hserved ?_
    simp only [ruleOf, readStatsRule, screenOf_eq_none (n := 0xFE) (by simp [isScreen]), State.partStatsFields,
      PartCounters.fields_eq, if_true]
    rfl
  · refine exec_served_of rfl hserved ?_
    simp only [ruleOf, readStatsRule, screenOf_eq_none (n := 0xFF) (by simp [isScreen]), State.partStatsFields,
      PartCounters.fields_eq, State.screens_toList, List.map_map, listField_eq_flatMap, Screen.statsFields,
      Counters.fields_eq, Function.comp_def, List.length_finRange]
    rfl

/-! ### The reply path -/

/-- Settles O8: sending, and READY in each phase. -/
theorem pathSendsOldestAndReadyOnce : Obligations.PathSendsOldestAndReadyOnce := by
  refine ⟨fun s f rest hpath => ?_, fun s hphase => ?_, fun s hphase => ?_⟩
  · show Host.Outcome.next _ = _
    rw [hpath]
    rfl
  · exact congrArg Host.Outcome.next (if_pos hphase)
  · exact congrArg Host.Outcome.next (if_neg hphase)

end Sys2Proof.Machine
end

section
/-! The receiver of the control port (section 11.1): what it makes of the bytes that arrive. -/

namespace Sys2Proof.Machine

/-! ### Two bytes as a number -/

theorem u16_eq {n : Nat} : u16 n = [BitVec.ofNat 8 (n / 256), BitVec.ofNat 8 n] := rfl

theorem n16_eq {a b : Byte} : n16 a b = a.toNat * 256 + b.toNat := by
  simp [n16, beNat]

theorem n16_u16 {n : Nat} (h : n < 65536) : n16 (BitVec.ofNat 8 (n / 256)) (BitVec.ofNat 8 n) = n := by
  simp only [n16_eq, BitVec.toNat_ofNat]
  omega

theorem append_toNat {a b : Byte} : (a ++ b).toNat = n16 a b := by
  rw [n16_eq, BitVec.toNat_append, ← Nat.shiftLeft_add_eq_or_of_lt b.isLt, Nat.shiftLeft_eq]

theorem ofNat_n16 {a b : Byte} : BitVec.ofNat 16 (n16 a b) = a ++ b := by
  rw [← append_toNat, BitVec.ofNat_toNat, BitVec.setWidth_eq]

theorem u16_append {a b : Byte} : u16 (a ++ b).toNat = [a, b] := by
  have ha := a.isLt
  have hb := b.isLt
  rw [append_toNat, n16_eq, u16_eq]
  congr 1
  · apply BitVec.eq_of_toNat_eq
    rw [BitVec.toNat_ofNat]
    omega
  · congr 1
    apply BitVec.eq_of_toNat_eq
    rw [BitVec.toNat_ofNat]
    omega

/-! ### The bytes of one frame -/

/-- A frame of at most 1,024 payload bytes behind its SYNC, with its check: valid or not, as the check says (R193). -/
theorem scanBytes_frame {tag kind c0 c1 : Byte} {payload : List Byte} (hlength : payload.length ≤ 1024) :
    scanBytes (sync :: (u16 payload.length ++ [tag, kind] ++ payload ++ [c0, c1])) =
      if crc16 (u16 payload.length ++ [tag, kind] ++ payload) = c0 ++ c1 then
        .frame { tag := tag, kind := kind, payload := payload } []
      else .badCheck := by
  have hn : n16 (BitVec.ofNat 8 (payload.length / 256)) (BitVec.ofNat 8 payload.length) = payload.length :=
    n16_u16 (by omega)
  simp only [u16_eq, List.cons_append, List.nil_append, scanBytes, hn, ofNat_n16, Config.maxPayload,
    if_neg (Nat.not_lt.mpr hlength), List.take_left, List.drop_left, ne_eq, not_true_eq_false, if_false]
  rfl

theorem scanBytes_frameBytes {f : Frame} (hlength : f.payload.length ≤ 1024) : scanBytes (frameBytes f) = .frame f [] := by
  have hcheck : crc16 (frameBody f) =
      BitVec.ofNat 8 ((crc16 (frameBody f)).toNat / 256) ++ BitVec.ofNat 8 (crc16 (frameBody f)).toNat := by
    rw [← ofNat_n16, n16_u16 (crc16 (frameBody f)).isLt, BitVec.ofNat_toNat, BitVec.setWidth_eq]
  exact (scanBytes_frame hlength).trans (if_pos hcheck)

/-- A length above 1,024 is a discard whatever stands behind it (R193). -/
theorem scanBytes_tooLong {hi lo : Byte} {more : List Byte} (h : 1024 < n16 hi lo) :
    scanBytes (sync :: hi :: lo :: more) = .tooLong := by
  simp only [scanBytes, Config.maxPayload, ne_eq, not_true_eq_false, if_false]
  exact if_pos h

theorem scanBytes_hunt {b : Byte} {rest : List Byte} (h : b ≠ sync) : scanBytes (b :: rest) = .hunt := by
  simp only [scanBytes, if_pos h]

/-! ### The rounds -/

section
variable {s : State} {k : Nat} {bytes : List Byte}

theorem State.receiveRounds_nil : State.receiveRounds k [] s = s.modPort (fun p => { p with received := [] }) := by
  cases k <;> rfl

/-- Bytes among which no SYNC stands are hunted past. -/
theorem State.receiveRounds_hunt (hbytes : ∀ b ∈ bytes, b ≠ sync) (hk : bytes.length ≤ k) :
    State.receiveRounds k bytes s = s.modPort (fun p => { p with received := [] }) := by
  induction bytes generalizing k with
  | nil => exact State.receiveRounds_nil
  | cons b rest ih =>
    obtain ⟨k, rfl⟩ : ∃ m, k = m + 1 := ⟨k - 1, by rw [List.length_cons] at hk; omega⟩
    rw [State.receiveRounds, scanBytes_hunt (hbytes b List.mem_cons_self)]
    exact ih (fun c hc => hbytes c (List.mem_cons_of_mem b hc)) (Nat.le_of_succ_le_succ hk)

theorem State.receiveRounds_frame {f : Frame} (h : scanBytes bytes = .frame f []) :
    State.receiveRounds (k + 1) bytes s = (s.offerFrame f).modPort (fun p => { p with received := [] }) := by
  rw [State.receiveRounds, h]
  exact State.receiveRounds_nil

theorem State.receiveRounds_discard {b : Byte} (h : scanBytes (b :: bytes) = .tooLong ∨ scanBytes (b :: bytes) = .badCheck) :
    State.receiveRounds (k + 1) (b :: bytes) s = State.receiveRounds k bytes s.countDiscard := by
  rw [State.receiveRounds]
  rcases h with h | h <;> rw [h] <;> rfl

/-- A receiver with nothing in hand has nothing in hand. -/
theorem State.modPort_received (h : s.port.received = []) : s.modPort (fun p => { p with received := [] }) = s := by
  rw [State.modPort, ← h]

/-- Bytes that arrive while nothing is in hand. -/
theorem State.receive_of_hunting {b : Byte} (hphase : s.port.phase ≠ .starting) (hreceived : s.port.received = []) :
    s.receive (b :: bytes) =
      State.receiveRounds (bytes.length + 1) (b :: bytes) (s.modPort (fun p => { p with lastByte := s.time })) := by
  have hgo : ¬ (s.port.phase = .starting ∨ b :: bytes = []) := by simp [hphase]
  simp only [State.receive, if_neg hgo, hreceived, List.nil_append, List.length_cons]

theorem State.received_offerFrame {f : Frame} : (s.offerFrame f).port.received = s.port.received := by
  unfold State.offerFrame
  split
  · rfl
  · split <;> rfl

theorem frameBytes_eq {f : Frame} : frameBytes f = sync :: (frameBody f ++ u16 (crc16 (frameBody f)).toNat) := rfl

/-- A valid frame that arrives while nothing is in hand is offered to the holding area. -/
theorem exec_validFrame {f : Frame} (hphase : s.port.phase ≠ .starting) (hreceived : s.port.received = [])
    (hlength : f.payload.length ≤ 1024) :
    exec (.controlFrame (frameBytes f)) s =
      .next ((s.modPort (fun p => { p with lastByte := s.time })).offerFrame f) := by
  show Host.Outcome.next (s.receive _) = _
  rw [frameBytes_eq, State.receive_of_hunting hphase hreceived, ← frameBytes_eq,
    State.receiveRounds_frame (scanBytes_frameBytes hlength)]
  refine congrArg Host.Outcome.next ?_
  exact State.modPort_received (State.received_offerFrame.trans hreceived)

end

/-- Settles O6: the three ends of an offer, and the time before READY. -/
theorem validFrameIsHeldOrBusy : Obligations.ValidFrameIsHeldOrBusy := by
  refine ⟨fun s f hphase hreceived hlength hheld => ?_, fun s f hphase hreceived hlength hheld => ?_,
    fun s bytes hphase => ?_⟩
  · rw [exec_validFrame hphase hreceived hlength]
    exact congrArg Host.Outcome.next (if_pos hheld)
  · rw [exec_validFrame hphase hreceived hlength]
    refine congrArg Host.Outcome.next ((if_neg fun h => ?_).trans ?_)
    · exact absurd (hheld ▸ h) (by decide)
    · rfl
  · exact congrArg Host.Outcome.next (if_pos (.inl hphase))

/-- Settles O7: each discard counts once, and the receiver runs on over the bytes behind the SYNC. -/
theorem badFramesAreDiscarded : Obligations.BadFramesAreDiscarded := by
  refine ⟨fun s tag kind c0 c1 payload hphase hreceived hlength hbytes hcheck => ?_,
    fun s hi lo hphase hreceived hhi hlo hlong => ?_, fun s hphase hreceived hdue => ?_,
    fun s hphase hreceived => ⟨fun tag kind c0 c1 payload hlength hcheck => ?_, fun length hlong => ?_⟩⟩
  · have hframe : [0xA5] ++ u16 payload.length ++ [tag, kind] ++ payload ++ [c0, c1] =
        sync :: (u16 payload.length ++ [tag, kind] ++ payload ++ [c0, c1]) := rfl
    refine congrArg Host.Outcome.next ?_
    rw [hframe, State.receive_of_hunting hphase hreceived,
      State.receiveRounds_discard (.inr ((scanBytes_frame hlength).trans (if_neg hcheck))),
      State.receiveRounds_hunt hbytes (Nat.le_refl _)]
    exact State.modPort_received hreceived
  · have hlong' : 1024 < n16 hi lo := append_toNat ▸ hlong
    have hbytes : ∀ b ∈ [hi, lo], b ≠ sync := by simpa using ⟨hhi, hlo⟩
    refine congrArg Host.Outcome.next ((if_pos hlong).trans ?_)
    rw [u16_append, State.receive_of_hunting hphase hreceived, State.receiveRounds_discard (.inl (scanBytes_tooLong hlong')),
      State.receiveRounds_hunt hbytes (Nat.le_refl _)]
    exact State.modPort_received hreceived
  · have hdue' : s.frameTimeoutDue = true := by
      simp only [State.frameTimeoutDue, elapsed, Bool.and_eq_true, decide_eq_true_eq]
      exact ⟨⟨hphase, hreceived⟩, hdue⟩
    exact congrArg Host.Outcome.next (if_pos hdue')
  · show Host.Outcome.next (s.receive (sync :: _)) = _
    rw [State.receive_of_hunting hphase hreceived,
      State.receiveRounds_discard (.inr ((scanBytes_frame hlength).trans (if_neg hcheck)))]
    exact congrArg Host.Outcome.next (State.receive_of_hunting (s := s.countDiscard) hphase hreceived).symm
  · have hbytes := u16_eq (n := length.toNat)
    have hlong' : 1024 < n16 (BitVec.ofNat 8 (length.toNat / 256)) (BitVec.ofNat 8 length.toNat) := by
      rw [n16_u16 length.isLt]
      exact hlong
    refine congrArg Host.Outcome.next ((if_pos hlong).trans ?_)
    rw [hbytes, State.receive_of_hunting hphase hreceived, State.receiveRounds_discard (.inl (scanBytes_tooLong hlong'))]
    exact (State.receive_of_hunting (s := s.countDiscard) hphase hreceived).symm

end Sys2Proof.Machine
end

section
/-! The resets of the part and of a screen (sections 1.6 and 11.3). -/

namespace Sys2Proof.Machine

variable {s : State} {i : ScreenIx} {l : Letter}

/-! ### The end of every holding -/

theorem State.slot_endHolding_of_ne {j : ScreenIx} {m : Letter} (h : (j, m) ≠ (i, l)) :
    (s.endHolding i l).slot j m = s.slot j m := by
  rw [State.endHolding_eq]
  refine Eq.trans (b := (s.modSlot i l (fun x => { x with holding := false })).slot j m) rfl ?_
  rw [State.slot_modSlot, if_neg fun ⟨hi, hl⟩ => h (by rw [hi, hl])]

/-- Slots that end their holding one after the other send what each would send alone. -/
theorem State.foldl_endHolding {slots : List (ScreenIx × Letter)} (hnodup : slots.Nodup) :
    ∃ screens, slots.foldl (fun s p => s.endHolding p.1 p.2) s =
      { s with screens := screens, paceOut := s.paceOut ++ slots.flatMap (fun p => (s.slot p.1 p.2).paceGo) } := by
  induction slots generalizing s with
  | nil => exact ⟨s.screens, by simp⟩
  | cons p rest ih =>
    obtain ⟨hnew, hrest⟩ := List.nodup_cons.mp hnodup
    obtain ⟨screens, hfold⟩ := ih (s := s.endHolding p.1 p.2) hrest
    have hne (q : ScreenIx × Letter) (hq : q ∈ rest) : (q.1, q.2) ≠ (p.1, p.2) := fun heq => by
      obtain rfl : q = p := heq
      exact hnew hq
    have hothers : rest.flatMap (fun q => ((s.endHolding p.1 p.2).slot q.1 q.2).paceGo) =
        rest.flatMap (fun q => (s.slot q.1 q.2).paceGo) := by
      simp only [List.flatMap_def]
      exact congrArg List.flatten (List.map_congr_left fun q hq => by rw [State.slot_endHolding_of_ne (hne q hq)])
    refine ⟨screens, ?_⟩
    rw [List.foldl_cons, hfold, hothers, List.flatMap_cons, ← List.append_assoc, State.endHolding_eq]
    rfl

theorem allSlots_nodup : allSlots.Nodup := by decide

theorem State.releaseHolding_eq :
    ∃ screens, s.releaseHolding =
      { s with
        screens := screens,
        paceOut := s.paceOut ++
          (List.finRange 8).flatMap (fun i => (s.slot i .a).paceGo ++ (s.slot i .b).paceGo) } := by
  obtain ⟨screens, h⟩ := State.foldl_endHolding (s := s) allSlots_nodup
  refine ⟨screens, h.trans ?_⟩
  simp only [allSlots, List.flatMap_assoc, List.flatMap_cons, List.flatMap_nil, List.append_nil]

/-- The restart of the part, in the terms of the state before it (R198). -/
theorem State.releaseHolding_restartWith {library : Vector (Option Preset) 32} :
    s.releaseHolding.restartWith library =
      { State.reset with
        library := library, lines := s.lines.map (fun x => Line.reset x.pin), controlOut := s.controlOut,
        paceOut := s.paceOut ++
          (List.finRange 8).flatMap (fun i => (s.slot i .a).paceGo ++ (s.slot i .b).paceGo),
        pending := s.pending } := by
  obtain ⟨screens, h⟩ := State.releaseHolding_eq (s := s)
  rw [h]
  rfl

/-! ### When a reset takes effect -/

theorem isResetReply_iff {f : Frame} : isResetReply f = true ↔ f.kind = 0x66 ∧ f.payload = [0x00] := by
  rw [isResetReply, Bool.and_eq_true, decide_eq_true_eq, decide_eq_true_eq]
  rfl

theorem State.resetDue_iff :
    s.resetDue = true ↔ s.port.phase = .resetServed ∧ ∀ f ∈ s.port.path, ¬ (f.kind = 0x66 ∧ f.payload = [0x00]) := by
  simp only [State.resetDue, Bool.and_eq_true, decide_eq_true_eq, Bool.not_eq_true', List.any_eq_false, isResetReply_iff]

/-- Settles O9: RESET, its taking effect or not, and the two restarts without a reply. -/
theorem resetsOfThePart : Obligations.ResetsOfThePart := by
  refine ⟨fun s q hserved => (exec_served_of rfl hserved rfl).trans rfl, fun s hphase hsent => ?_, fun s ⟨f, hf, hreply⟩ => ?_,
    fun s => ⟨?_, rfl⟩⟩
  · refine congrArg Host.Outcome.next ((if_pos (State.resetDue_iff.mpr ⟨hphase, hsent⟩)).trans ?_)
    exact State.releaseHolding_restartWith
  · exact congrArg Host.Outcome.next (if_neg fun hdue => (State.resetDue_iff.mp hdue).2 f hf hreply)
  · exact congrArg Host.Outcome.next State.releaseHolding_restartWith

/-! ### SCREEN_RESET -/

theorem Alarms.get_restart {a : Alarms} {id : AlarmId} : a.restart.get id = Alarm.reset := by
  cases id <;> simp [Alarms.restart, Alarms.get]

/-- The reset of a screen as one change of it, with the PACE_GO of its two slots and the stop policy of its lines. -/
theorem State.screenReset_eq :
    s.screenReset i =
      (s.put i (s.scr i).restart ((s.slot i .a).paceGo ++ (s.slot i .b).paceGo)).applyStopPolicy i := by
  have hslot : ((s.scr i).intake.setSlot .a { s.slot i .a with holding := false }).slot .b = s.slot i .b := rfl
  simp only [State.screenReset, State.endHolding_eq_put, State.modScreen_eq_put, State.slot_put_same, State.scr_put_same,
    State.put_put, List.append_nil, hslot]
  rfl

/-- Settles O10: the screen's blocks one by one, and what the reset leaves. -/
theorem screenResetRestartsOneScreen : Obligations.ScreenResetRestartsOneScreen := by
  intro s q i hserved
  have hrule : ruleOf (.screenReset q (i.val + 1)) s.beginService = (s.beginService.screenReset i, [0x00]) := by
    simp only [ruleOf, screenResetRule, screenOf_code]
    rfl
  rw [State.screenReset_eq] at hrule
  refine ⟨_, exec_served_of rfl hserved hrule, ?_⟩
  generalize hpace : (s.beginService.slot i .a).paceGo ++ (s.beginService.slot i .b).paceGo = pace
  have hscr (j : ScreenIx) :
      (((s.beginService.put i (s.beginService.scr i).restart pace).applyStopPolicy i).pushPath
        { tag := q.tag, kind := 0x27 + 0x40, payload := [0x00] }).scr j =
      if i = j then (s.scr i).restart else s.scr j := State.scr_put (pace := pace)
  have hline (l : LineIx) :
      (((s.beginService.put i (s.beginService.scr i).restart pace).applyStopPolicy i).pushPath
        { tag := q.tag, kind := 0x27 + 0x40, payload := [0x00] }).line l = Line.stopFor i (s.line l) :=
    State.line_applyStopPolicy
  simp only [hscr, hline, if_true]
  refine ⟨fun l => Intake.slot_restart, rfl, rfl, rfl, rfl, rfl, rfl, rfl, rfl, rfl, rfl, rfl, rfl, rfl,
    fun id => Alarms.get_restart, fun k => ?_, rfl, rfl, rfl, rfl, rfl, rfl, rfl, rfl, fun j hj => if_neg (Ne.symm hj),
    fun _ => trivial, ?_, rfl, rfl, rfl, rfl, rfl, rfl, rfl, rfl, rfl, rfl⟩
  · cases k <;> rfl
  · rw [List.append_assoc]
    exact congrArg (s.paceOut ++ ·) hpace.symm

end Sys2Proof.Machine
end

section
/-! The clock's requests (sections 7.3 to 7.5), and what a command of the table leaves. -/

namespace Sys2Proof.Machine

theorem code_of_lineOf {n : Nat} {l : LineIx} (h : lineOf n = some l) : LineIx.code l = n := by
  have hn := range_of_lineOf h
  rw [lineOf_of_mem hn] at h
  cases h
  exact Nat.sub_add_cancel hn.1

/-! ### A command of the table: the screens, the lines and the rest -/

section
variable {s : State} {i j : ScreenIx} {k : ClockCommand} {bytes : List Byte}

theorem State.scr_commanded :
    (s.commanded i k bytes).scr j = if i = j then { s.scr i with clock := (s.scr i).clock.after k } else s.scr j := by
  by_cases h : (s.scr i).clock.after k = (s.scr i).clock
  · rw [State.commanded_of_eq h, h]
    split
    next hij => rw [hij]
    next => rfl
  · rw [State.commanded_of_ne h]
    dsimp only
    split <;> simp only [State.scr_applyStopPolicy, State.scr_postAt, State.scr_put]

theorem State.line_commanded {l : LineIx} :
    (s.commanded i k bytes).line l =
      if (s.scr i).clock.state ≠ .stopped ∧ ((s.scr i).clock.after k).state = .stopped then Line.stopFor i (s.line l)
      else s.line l := by
  by_cases h : (s.scr i).clock.after k = (s.scr i).clock
  · rw [State.commanded_of_eq h, h, if_neg fun ⟨hnot, hstopped⟩ => hnot hstopped]
  · rw [State.commanded_of_ne h]
    dsimp only
    split
    · rw [State.line_applyStopPolicy, State.line_postAt]
      rfl
    · rw [State.line_postAt]
      rfl

/-- CLOCK in its range: the command, then the reply with what it left. -/
theorem exec_clock {q : Req} {command position : Nat} (hserved : Served q (.clock q (i.val + 1) command position) s)
    (hk : clockCommandOf command position = some k) :
    exec (.clock q (i.val + 1) command position) s =
      .next ((s.beginService.commanded i k [0x00, 0x00]).pushPath
        { tag := q.tag, kind := 0x54,
          payload := [0x00, BitVec.ofNat 8 ((s.scr i).clock.after k).state.code] ++
            u32 ((s.scr i).clock.after k).position }) := by
  refine exec_served_of rfl hserved ?_
  simp only [ruleOf, clockRule, screenOf_code, hk, State.clockCommand_eq]
  have hclock : ((s.beginService.commanded i k ClockCause.request.bytes).scr i).clock = (s.scr i).clock.after k := by
    rw [State.scr_commanded, if_pos rfl]
    rfl
  rw [hclock]
  rfl

theorem clockCommandOf_eq {command position : Nat} :
    clockCommandOf command position =
      if command = 0 then some .start else if command = 1 then some .stop else if command = 2 then some .hold
      else if command = 3 ∧ position < 4294967295 then some (.reload position) else none := by
  match command with
  | 0 | 1 | 2 => rfl
  | 3 =>
    by_cases h : position < 4294967295
    · simp [clockCommandOf, Config.absentPosition, h]
    · simp [clockCommandOf, Config.absentPosition, h]
  | n + 4 => simp [clockCommandOf]

end

/-- Settles O21: the table's command and its reply, the stop policy line by line, and the codes. -/
theorem clockCommandByTable : Obligations.ClockCommandByTable := by
  refine ⟨fun s q i command position hserved => ?_, fun i x => ?_, fun command position => clockCommandOf_eq⟩
  · dsimp only
    split
    next hnone =>
      refine exec_refused hserved rfl fun hrange => ?_
      obtain ⟨-, hcommand, hposition⟩ := hrange
      have hcodes : command = 0 ∨ command = 1 ∨ command = 2 ∨ command = 3 := by omega
      rw [clockCommandOf_eq] at hnone
      rcases hcodes with rfl | rfl | rfl | rfl
      · exact nomatch hnone
      · exact nomatch hnone
      · exact nomatch hnone
      · have hlow : position < 4294967295 := by omega
        simp [hlow] at hnone
    next k hk =>
      rw [exec_clock hserved hk]
      have hclock : (s.beginService.scr i).clock = (s.scr i).clock := rfl
      by_cases h : (s.scr i).clock.after k = (s.scr i).clock
      · rw [State.commanded_of_eq (s := s.beginService) h]
        simp only [h, if_true]
        rw [if_neg fun hstop => hstop.1 hstop.2, State.set_scr_self]
        rfl
      · simp only [State.commanded, hclock, if_neg h]
        cases k <;> rfl
  · unfold Line.stopFor
    cases hconfig : x.config with
    | input => rfl
    | output f invert =>
      cases f with
      | cue j policy => cases policy <;> simp
      | _ => rfl

theorem State.clock_modClock {s : State} {i : ScreenIx} {f : Clock → Clock} :
    ((s.modClock i f).scr i).clock = f (s.scr i).clock := by
  rw [State.modClock_eq_put, State.scr_put_same]

theorem lineField_of_lineOrNoneOf {n : Nat} {l : Option LineIx} (h : lineOrNoneOf n = some l) :
    lineField l = [BitVec.ofNat 8 n] := by
  unfold lineOrNoneOf at h
  split at h
  next hn =>
    cases h
    rw [hn]
    rfl
  next =>
    obtain ⟨m, hm, rfl⟩ := Option.map_eq_some_iff.mp h
    rw [← code_of_lineOf hm]
    rfl

/-- Settles O22: the three requests, each with its fields in range. -/
theorem clockSettings : Obligations.ClockSettings := by
  refine ⟨fun s q i mode endMode length pass flywheel hlength hpass hflywheel hserved => ?_,
    fun s q i entry line position l e hline hentry hposition hserved => ?_, fun s q i hserved => ?_⟩
  · have hmode : clockModeOf mode.code = some mode := by cases mode <;> rfl
    have hend : endModeOf endMode.code = some endMode := by cases endMode <;> rfl
    have hconfigure : (s.scr i).clock.configure mode length endMode pass flywheel =
        { (s.scr i).clock with
          mode := mode, length := length, endMode := endMode, passWindow := pass, flywheelLimit := flywheel,
          flywheelCount := min (s.scr i).clock.flywheelCount flywheel,
          position := if length ≠ 0 ∧ length < (s.scr i).clock.position then length else (s.scr i).clock.position,
          mark := if length ≠ 0 ∧ length < (s.scr i).clock.position then true else (s.scr i).clock.mark } := by
      unfold Clock.configure
      dsimp only
      split <;> rfl
    have hrange : length < Config.absentPosition ∧ pass ≤ 2000 ∧ flywheel ≤ 10000 :=
      ⟨Nat.lt_succ_of_le hlength, hpass, hflywheel⟩
    refine exec_served_of rfl hserved ?_
    simp only [ruleOf, setClockRule, screenOf_code, hmode, hend, if_pos hrange, State.clock_modClock, State.scr_beginService,
      hconfigure]
    simp only [State.modClock, State.modScreen, State.scr_beginService, hconfigure]
    rfl
  · have hedge : edgeOf e.code = some e := by cases e <;> rfl
    have hfield : lineField l = [BitVec.ofNat 8 line] := lineField_of_lineOrNoneOf hline
    refine exec_served_of rfl hserved ?_
    simp only [ruleOf, setTriggerRule, screenOf_code, hedge, hline, hfield]
    match entry, hentry with
    | 0, _ => rfl
    | 1, _ => rfl
    | 2, _ =>
      simp only [if_pos (show position < Config.absentPosition from hposition rfl)]
      rfl
  · refine exec_served_of rfl hserved ?_
    simp only [ruleOf, readCaptureRule, screenOf_code]
    rfl

end Sys2Proof.Machine
end

section
/-! Contact lines: configuration, pin changes, pulses, and the edges that reach the clocks (chapter 9). -/

namespace Sys2Proof.Machine

/-! ### Pins and pulses -/

/-- Settles O19: a pin in its two cases, and a pulse whose end is reached. -/
theorem pinChangeAndPulseExpiry : Obligations.PinChangeAndPulseExpiry := by
  refine ⟨fun s l high debounce e a hconfig hraw => ?_, fun s l high hquiet => ?_,
    fun s l i stop invert ends hconfig hpulse hreached => ?_⟩
  · have hpin : Line.pinTo s.time high (s.line l) =
        { s.line l with
          pin := high, raw := high,
          debounceTimer := if high ≠ (s.line l).level then some (s.time + BitVec.ofNat 32 debounce) else none } := by
      simp only [Line.pinTo, hconfig, if_neg hraw, ne_eq, ite_not]
    show Host.Outcome.next { s with lines := s.lines.set l (Line.pinTo s.time high (s.line l)) } = _
    rw [hpin]
  · have hpin : Line.pinTo s.time high (s.line l) = { s.line l with pin := high } := by
      unfold Line.pinTo
      split
      next hinput =>
        rcases hquiet with hraw | ⟨f, v, houtput⟩
        · exact if_pos hraw
        · rw [houtput] at hinput
          cases hinput
      next => rfl
    show Host.Outcome.next { s with lines := s.lines.set l (Line.pinTo s.time high (s.line l)) } = _
    rw [hpin]
  · have hdue : s.pulseDue l = true := by
      simp only [State.pulseDue, Line.cueScreen, hconfig, hpulse, Option.isSome_some, Bool.true_and, reached, decide_eq_true_eq]
      exact hreached
    exact congrArg Host.Outcome.next (if_pos hdue)

/-! ### Configuration -/

theorem edgeOf_eq {n : Nat} (h : n ≤ 2) :
    edgeOf n = some (if n = 0 then .rising else if n = 1 then .falling else .both) := by
  obtain rfl | rfl | rfl : n = 0 ∨ n = 1 ∨ n = 2 := by omega
  all_goals rfl

theorem screenOf_eq {n : Nat} (h : isScreen n) : screenOf n = some (Fin.ofNat 8 (n - 1)) := by
  obtain ⟨hlow, hhigh⟩ := h
  rw [screenOf, dif_pos ⟨hlow, hhigh⟩]
  congr 1
  exact Fin.ext (Nat.mod_eq_of_lt (by omega)).symm

theorem lineActionOf_eq {action screen cue : Nat} (haction : action ≤ 5) (hscreen : action ≠ 0 → isScreen screen)
    (hcue : action = 5 → isCueNumber cue) :
    lineActionOf action screen cue =
      some (if action = 0 then .none else if action = 1 then .start (Fin.ofNat 8 (screen - 1))
        else if action = 2 then .stop (Fin.ofNat 8 (screen - 1)) else if action = 3 then .reload (Fin.ofNat 8 (screen - 1))
        else if action = 4 then .capture (Fin.ofNat 8 (screen - 1)) else .fire (Fin.ofNat 8 (screen - 1)) cue) := by
  by_cases hzero : action = 0
  · subst hzero
    rfl
  · have hread := screenOf_eq (hscreen hzero)
    have hclock : (action = 1 ∨ action = 2 ∨ action = 3 ∨ action = 4) ∨ action = 5 := by omega
    rcases hclock with hclock | rfl
    · rcases hclock with rfl | rfl | rfl | rfl <;>
        (simp only [lineActionOf, hread]; rfl)
    · simp only [lineActionOf, hread, if_pos (show 1 ≤ cue ∧ cue ≤ 9999 from hcue rfl)]
      rfl

theorem lineFunctionOf_eq {function screen alarm stop : Nat} (hfunction : function ≤ 3) (hscreen : isScreen screen)
    (hstop : function = 0 → stop ≤ 2) (halarm : function = 1 → alarm ≤ 3) :
    lineFunctionOf function screen alarm stop =
      some (if function = 0 then
          .cue (Fin.ofNat 8 (screen - 1)) (if stop = 0 then .retain else if stop = 1 then .forceOff else .forceOn)
        else if function = 1 then
          .followAlarm (Fin.ofNat 8 (screen - 1))
            (if alarm = 0 then .overLevel else if alarm = 1 then .clip else if alarm = 2 then .silence else .stream)
        else if function = 2 then .followClock (Fin.ofNat 8 (screen - 1)) else .followStream (Fin.ofNat 8 (screen - 1))) := by
  have hread := screenOf_eq hscreen
  obtain rfl | rfl | rfl | rfl : function = 0 ∨ function = 1 ∨ function = 2 ∨ function = 3 := by omega
  · have := hstop rfl
    obtain rfl | rfl | rfl : stop = 0 ∨ stop = 1 ∨ stop = 2 := by omega
    all_goals
      simp only [lineFunctionOf, hread]
      rfl
  · have := halarm rfl
    obtain rfl | rfl | rfl | rfl : alarm = 0 ∨ alarm = 1 ∨ alarm = 2 ∨ alarm = 3 := by omega
    all_goals
      simp only [lineFunctionOf, hread]
      rfl
  all_goals
    simp only [lineFunctionOf, hread]
    rfl

theorem lineConfigOf_eq_none {raw : RawLine} (h : ¬ raw.inRange) : lineConfigOf raw = none := by
  refine Classical.byContradiction fun hsome => ?_
  obtain ⟨c, hc⟩ := Option.ne_none_iff_exists'.mp hsome
  exact h (inRange_of_lineConfigOf hc)

theorem Alarm.stands_iff {x : Alarm} : x.stands = true ↔ x.state ∈ [AlarmState.raised, .clearing, .latched] := by
  unfold Alarm.stands
  split <;> simp_all

theorem AlarmKind.mem_ids {k : AlarmKind} {id : AlarmId} : id ∈ k.ids ↔ id.kind = k := by
  cases k <;> cases id <;> simp [AlarmKind.ids, AlarmId.kind]

theorem Alarms.anyStands_iff {a : Alarms} {k : AlarmKind} :
    a.anyStands k = true ↔ ∃ id : AlarmId, id.kind = k ∧ (a.get id).state ∈ [AlarmState.raised, .clearing, .latched] := by
  simp only [Alarms.anyStands, List.any_eq_true, AlarmKind.mem_ids, Alarm.stands_iff]

/-- SET_LINE with fields that name a configuration. -/
theorem exec_setLine {s : State} {q : Req} {l : LineIx} {fields : RawLine} {c : LineConfig}
    (hfields : lineConfigOf fields = some c) (hserved : Served q (.setLine q (l.val + 1) fields) s) :
    exec (.setLine q (l.val + 1) fields) s =
      .next ((s.beginService.modLine l (Line.fresh c)).pushPath
        { tag := q.tag, kind := 0x5C,
          payload := 0x00 :: c.fields ++
            [BitVec.ofNat 8 (boolCode ((s.beginService.modLine l (Line.fresh c)).lineLevel l))] }) := by
  refine exec_served_of rfl hserved ?_
  simp only [ruleOf, setLineRule, lineOf_code, hfields, flag_eq]
  rfl

/-- Settles O17: the fresh start, the fields of a configuration, and the level of a line and of its pin. -/
theorem setLineStartsFresh : Obligations.SetLineStartsFresh := by
  refine ⟨fun s q l fields c hfields hserved => ?_, fun debounce edge action screen cue => ?_,
    fun function screen alarm invert stop direction => ⟨?_, rfl⟩, fun s l => ⟨?_, ?_⟩⟩
  · refine ⟨_, exec_setLine hfields hserved, ?_⟩
    have hline (f : Frame) (m : LineIx) :
        ((s.beginService.modLine l (Line.fresh c)).pushPath f).line m = if l = m then Line.fresh c (s.line l) else s.line m :=
      State.line_modLine
    refine ⟨?_, ?_, fun m hm => (hline _ m).trans (if_neg (Ne.symm hm)), rfl⟩
    · rw [hline, if_pos rfl]
      cases c <;> rfl
    · unfold State.lineLevel
      rw [hline, if_pos rfl]
      cases c with
      | input => rfl
      | output f invert => cases f <;> rfl
  · dsimp only
    split
    next hrange =>
      obtain ⟨hlow, hhigh, hedge, haction, hscreen, hcue⟩ := hrange
      simp only [lineConfigOf, edgeOf_eq hedge, lineActionOf_eq haction hscreen hcue, if_pos (And.intro hlow hhigh)]
    next hrange => exact lineConfigOf_eq_none hrange
  · split
    next hrange =>
      obtain ⟨hfunction, hlow, hhigh, hinvert, halarm, hstop⟩ := hrange
      have hon : onOf invert = some (decide (invert = 1)) := by
        obtain rfl | rfl : invert = 0 ∨ invert = 1 := by omega
        all_goals rfl
      simp only [lineConfigOf, lineFunctionOf_eq hfunction ⟨hlow, hhigh⟩ hstop halarm, hon]
    next hrange =>
      refine lineConfigOf_eq_none fun h => hrange ?_
      obtain ⟨hfunction, ⟨hlow, hhigh⟩, hinvert, hstop, halarm⟩ := h
      exact ⟨hfunction, hlow, hhigh, hinvert, halarm, hstop⟩
  · unfold State.lineLevel
    cases (s.line l).config with
    | input => rfl
    | output f invert =>
      cases f with
      | cue => rfl
      | followAlarm i k => exact Alarms.anyStands_iff
      | followClock i => exact decide_eq_true_iff
      | followStream i => exact decide_eq_true_iff
  · unfold State.drivenPin
    cases (s.line l).config with
    | input => rfl
    | output f invert => cases s.lineLevel l <;> cases invert <;> rfl

/-! ### Edges -/

section
variable {s t u : State} {i j : ScreenIx} {l m : LineIx} {rising : Bool} {a : LineAction}

/-- What commands of the clocks may do to the part: screens, lines and records, and no pace message. -/
def State.Moves (s t : State) : Prop :=
  ∃ screens lines queue path, t = { s with screens := screens, lines := lines, queue := queue, port := { s.port with path := path } }

theorem State.Moves.refl (s : State) : s.Moves s := ⟨_, _, _, _, rfl⟩

theorem State.Moves.trans (h : s.Moves t) (h' : t.Moves u) : s.Moves u := by
  obtain ⟨_, _, _, _, rfl⟩ := h
  obtain ⟨_, _, _, _, rfl⟩ := h'
  exact ⟨_, _, _, _, rfl⟩

theorem State.Moves.postAt {what : EventType} {screen : Option ScreenIx} {position : Option Nat} {detail : List Byte} :
    s.Moves (s.postAt what screen position detail) := ⟨_, _, _, _, State.postAt_eq⟩

/-- The lines that commands of the clocks leave: each as it was, or as a stop policy brings it. -/
def Line.Stopped (x y : Line) : Prop := y = x ∨ ∃ i, y = Line.stopFor i x

theorem Line.stopFor_stopFor {x : Line} : Line.stopFor i (Line.stopFor i x) = Line.stopFor i x := by
  unfold Line.stopFor
  cases hconfig : x.config with
  | input => simp only [hconfig]
  | output f invert =>
    cases f with
    | cue k policy =>
      by_cases hk : k = i
      · cases policy <;> simp only [hk, if_true, hconfig]
      · simp only [hk, if_false, hconfig]
    | _ => simp only [hconfig]

theorem Line.Stopped.trans {x y z : Line} (h : x.Stopped y) (h' : y.Stopped z) : x.Stopped z := by
  obtain rfl | ⟨j, rfl⟩ := h
  · exact h'
  obtain rfl | ⟨i, rfl⟩ := h'
  · exact .inr ⟨j, rfl⟩
  by_cases hcue : x.cueScreen = some j
  · by_cases hij : i = j
    · exact .inr ⟨j, by rw [hij, Line.stopFor_stopFor]⟩
    · refine .inr ⟨j, Line.stopFor_of_ne ?_⟩
      rw [Line.cueScreen_congr Line.stopFor_config, hcue]
      exact fun h => hij (Option.some.inj h).symm
  · rw [Line.stopFor_of_ne hcue]
    exact .inr ⟨i, rfl⟩

/-- A line that is no CUE output is as it was. -/
theorem Line.Stopped.eq_of_input {x y : Line} (h : x.Stopped y) (hcue : x.cueScreen = none) : y = x := by
  obtain rfl | ⟨i, rfl⟩ := h
  · rfl
  · exact Line.stopFor_of_ne (by simp [hcue])

/-- What follows an edge: the part moves, and each line is left or stopped. -/
structure State.Follows (s t : State) : Prop where
  moves : s.Moves t
  lines : ∀ l, (s.line l).Stopped (t.line l)

theorem State.Follows.refl (s : State) : s.Follows s := ⟨.refl s, fun _ => .inl rfl⟩

theorem State.Follows.trans (h : s.Follows t) (h' : t.Follows u) : s.Follows u :=
  ⟨h.moves.trans h'.moves, fun l => (h.lines l).trans (h'.lines l)⟩

theorem State.Follows.postAt {what : EventType} {screen : Option ScreenIx} {position : Option Nat} {detail : List Byte} :
    s.Follows (s.postAt what screen position detail) := ⟨.postAt, fun _ => .inl State.line_postAt⟩

theorem State.Follows.commanded {k : ClockCommand} {bytes : List Byte} : s.Follows (s.commanded i k bytes) where
  moves := by
    unfold State.commanded
    dsimp only
    split
    · exact .refl s
    · have hpost (v : State) (hv : s.Moves v) : s.Moves
          (if (s.scr i).clock.state ≠ .stopped ∧ ((s.scr i).clock.after k).state = .stopped then
            { v with lines := s.lines.map (Line.stopFor i) } else v) := by
        split
        · exact hv.trans ⟨_, _, _, _, rfl⟩
        · exact hv
      refine hpost _ ?_
      have hmoved : s.Moves { s with screens := s.screens.set i { s.scr i with clock := (s.scr i).clock.after k } } :=
        ⟨_, _, _, _, rfl⟩
      split
      · exact hmoved.trans .postAt
      · exact hmoved.trans .postAt
  lines := fun l => by
    rw [State.line_commanded]
    split
    · exact .inr ⟨i, rfl⟩
    · exact .inl rfl

/-! #### Triggers -/

theorem Trigger.matchesEdge_eq {x : Trigger} : x.matchesEdge l rising = x.hit l rising := by
  obtain ⟨line, edge⟩ := x
  simp only [Trigger.matchesEdge, Trigger.hit]
  by_cases hline : line = some l
  · cases edge <;> cases rising <;> simp [hline, EdgeSelect.names]
  · simp [hline]

theorem State.runTriggers_eq : s.runTriggers i l rising = State.triggered l rising s i := by
  simp only [State.runTriggers, State.triggered, Trigger.matchesEdge_eq, State.clockCommand_eq]
  rfl

theorem State.Follows.triggered : s.Follows (State.triggered l rising s i) := by
  have hstep (p : Bool) (u : State) (k : ClockCommand) (bytes : List Byte) :
      u.Follows (if p = true then u.commanded i k bytes else u) := by
    split
    · exact .commanded
    · exact .refl u
  exact (hstep _ _ _ _).trans ((hstep _ _ _ _).trans (hstep _ _ _ _))

/-- The one screen whose clock carries its trigger entries out. -/
theorem State.scr_triggered :
    (State.triggered l rising s i).scr j =
      if i = j then { s.scr i with clock := (s.scr i).clock.afterTriggers l rising } else s.scr j := by
  have hstep (p : Bool) (u : State) (k : ClockCommand) (bytes : List Byte) :
      (if p = true then u.commanded i k bytes else u).scr j =
        if i = j then { u.scr i with clock := if p = true then (u.scr i).clock.after k else (u.scr i).clock } else u.scr j := by
    by_cases hij : i = j
    · subst hij
      rw [if_pos rfl]
      cases p
      · rfl
      · exact State.scr_commanded.trans (if_pos rfl)
    · rw [if_neg hij]
      cases p
      · rfl
      · exact State.scr_commanded.trans (if_neg hij)
  by_cases hij : i = j
  · subst hij
    simp only [State.triggered, hstep, if_true]
    simp only [Clock.afterTriggers, Trigger.hit, decide_eq_true_eq]
  · simp only [State.triggered, hstep, if_neg hij]

/-- Screens without a repeat, each of which carries its trigger entries out. -/
theorem State.scr_foldl_triggered {screens : List ScreenIx} (hnodup : screens.Nodup) :
    (screens.foldl (State.triggered l rising) s).scr j =
      if j ∈ screens then { s.scr j with clock := (s.scr j).clock.afterTriggers l rising } else s.scr j := by
  induction screens generalizing s with
  | nil => rfl
  | cons i rest ih =>
    obtain ⟨hnew, hrest⟩ := List.nodup_cons.mp hnodup
    rw [List.foldl_cons, ih hrest]
    by_cases hij : i = j
    · subst hij
      rw [if_neg hnew, if_pos List.mem_cons_self, State.scr_triggered, if_pos rfl]
    · have hmem : j ∈ i :: rest ↔ j ∈ rest := by simp [Ne.symm hij]
      simp only [hmem, State.scr_triggered, if_neg hij]

theorem State.Follows.foldl_triggered {screens : List ScreenIx} : s.Follows (screens.foldl (State.triggered l rising) s) := by
  induction screens generalizing s with
  | nil => exact .refl s
  | cons i rest ih => exact State.Follows.triggered.trans ih

/-! #### The line's action -/

theorem State.findCue_isSome_iff {n : Nat} : (s.findCue i n).isSome = true ↔ ∃ e ∈ (s.scr i).cues, e.number = n := by
  simp [State.findCue]

theorem Screen.slotAfter_fire {c : Screen} {n : Nat} :
    c.slotAfter i l (.fire j n) =
      if j = i ∧ c.immediate = .empty ∧ ∃ e ∈ c.cues, e.number = n then .cue n (.contact l) else c.immediate := rfl

/-- A screen after the line's action: its clock and its immediate slot. -/
theorem State.scr_runLineAction :
    (s.runLineAction l a).1.scr i =
      { s.scr i with clock := (s.scr i).clock.afterAction i a, immediate := (s.scr i).slotAfter i l a } := by
  cases a with
  | none => rfl
  | start j | stop j | reload j =>
    simp only [State.runLineAction, State.clockCommand_eq, State.scr_commanded, Clock.afterAction, Screen.slotAfter]
    by_cases hji : j = i
    · subst hji
      simp only [if_true]
    · simp only [if_neg hji]
  | capture j =>
    simp only [State.runLineAction, State.capture, State.scr_modClock, Clock.afterAction, Screen.slotAfter]
    by_cases hji : j = i
    · subst hji
      simp only [if_true]
    · simp only [if_neg hji]
  | fire j n =>
    simp only [State.runLineAction, State.offerCue, Clock.afterAction, Screen.slotAfter, State.findCue_isSome_iff]
    by_cases hji : j = i
    · subst hji
      simp only [true_and]
      split
      · simp [State.scr_setImmediate]
      · rfl
    · simp only [hji, false_and, if_false]
      split
      · simp [State.scr_setImmediate, hji]
      · rfl

theorem State.Follows.runLineAction : s.Follows (s.runLineAction l a).1 := by
  cases a with
  | none => exact .refl s
  | start | stop | reload =>
    simp only [State.runLineAction, State.clockCommand_eq]
    exact .commanded
  | capture => exact ⟨⟨_, _, _, _, rfl⟩, fun _ => .inl rfl⟩
  | fire =>
    simp only [State.runLineAction, State.offerCue]
    split
    · exact ⟨⟨_, _, _, _, rfl⟩, fun _ => .inl rfl⟩
    · exact .refl s

/-! #### The whole edge -/

theorem State.Follows.handEdge : s.Follows (s.handEdge l rising a) := by
  have hnamed : s.Follows (s.namedEdge l rising a) := by
    unfold State.namedEdge
    dsimp only
    split
    · exact State.Follows.runLineAction.trans .postAt
    · rw [State.runTriggers_eq]
      exact State.Follows.runLineAction.trans (State.Follows.triggered.trans .postAt)
  unfold State.handEdge
  simp only [State.runTriggers_eq]
  exact hnamed.trans .foldl_triggered

theorem State.scr_namedEdge :
    (s.namedEdge l rising a).scr i =
      if a.screen = some i then
        { (s.runLineAction l a).1.scr i with
          clock := ((s.runLineAction l a).1.scr i).clock.afterTriggers l rising }
      else (s.runLineAction l a).1.scr i := by
  unfold State.namedEdge
  dsimp only
  split
  next hnone => rw [State.scr_postAt, hnone, if_neg (by simp)]
  next k hsome =>
    rw [State.scr_postAt, State.runTriggers_eq, State.scr_triggered, hsome]
    by_cases hk : k = i
    · subst hk
      simp only [if_true]
    · rw [if_neg hk, if_neg fun h => hk (Option.some.inj h)]

/-- Every screen after an edge: the action of the screen it names, then its own trigger entries. -/
theorem State.scr_handEdge :
    (s.handEdge l rising a).scr i =
      { s.scr i with
        clock := ((s.scr i).clock.afterAction i a).afterTriggers l rising,
        immediate := (s.scr i).slotAfter i l a } := by
  unfold State.handEdge
  simp only [State.runTriggers_eq]
  rw [State.scr_foldl_triggered ((List.nodup_finRange 8).filter _), State.scr_namedEdge, State.scr_runLineAction]
  by_cases h : a.screen = some i
  · simp [h]
  · simp [h]

/-- An action's code and its cue number in the CONTACT record (R177). -/
def LineAction.contact : LineAction → Byte × Nat
  | .none => (0, 0xFFFF)
  | .start _ => (1, 0xFFFF)
  | .stop _ => (2, 0xFFFF)
  | .reload _ => (3, 0xFFFF)
  | .capture _ => (4, 0xFFFF)
  | .fire _ n => (5, n)

theorem contactDetail_eq {notTaken : Bool} :
    contactDetail l rising a notTaken =
      [BitVec.ofNat 8 (l.val + 1), if rising then 0 else 1, a.contact.1] ++ u16 a.contact.2 ++
        [if notTaken then 1 else 0] := by
  cases a <;> cases rising <;> cases notTaken <;> rfl

/-- An edge handed on, in the rules' terms. -/
theorem State.handEdge_eq : s.handEdge l rising a = s.edgeTaken l rising a := by
  have hrun : (fun t i => State.runTriggers t i l rising) = State.triggered l rising :=
    funext fun t => funext fun i => State.runTriggers_eq
  unfold State.handEdge State.edgeTaken State.namedEdge
  rw [hrun]
  cases a with
  | none =>
    dsimp only [LineAction.screen, State.runLineAction]
    rw [contactDetail_eq]
    rfl
  | start j | stop j | reload j =>
    dsimp only [LineAction.screen, State.runLineAction]
    rw [State.clockCommand_eq, State.runTriggers_eq, contactDetail_eq]
    congr 1
  | capture j =>
    dsimp only [LineAction.screen, State.runLineAction]
    rw [State.runTriggers_eq, contactDetail_eq]
    simp only [State.capture, Clock.afterAction, if_true]
    congr 1
  | fire j n =>
    dsimp only [LineAction.screen, State.runLineAction]
    rw [State.runTriggers_eq, contactDetail_eq]
    have hoffer : s.offerCue j n l =
        ({ s with screens := s.screens.set j { s.scr j with immediate := (s.scr j).slotAfter j l (.fire j n) } },
          !decide (¬ ((s.scr j).immediate = .empty ∧ ∃ e ∈ (s.scr j).cues, e.number = n))) := by
      simp only [State.offerCue, State.findCue_isSome_iff, Screen.slotAfter, true_and]
      by_cases h : (s.scr j).immediate = .empty ∧ ∃ e ∈ (s.scr j).cues, e.number = n
      · rw [if_pos h, if_pos h, decide_eq_false (not_not_intro h)]
        rfl
      · rw [if_neg h, if_neg h, decide_eq_true h, State.set_scr_self]
        rfl
    rw [hoffer]
    simp only [Bool.not_not]
    congr 1

end

/-- Settles O20: the expiry, the edge as it is handed on, and what it leaves of the screens and the lines. -/
theorem edgeReachesItsScreens : Obligations.EdgeReachesItsScreens := by
  intro s l debounce e a expires hconfig htimer hreached hraw
  have hdue : s.debounceDue l = true := by
    simp only [State.debounceDue, hconfig, htimer, reached, decide_eq_true_eq]
    exact hreached
  have hnames : (e.names (s.line l).raw = true) ↔
      (e = .both ∨ (e = .rising ∧ (s.line l).raw = true) ∨ (e = .falling ∧ (s.line l).raw = false)) := by
    cases e <;> simp [EdgeSelect.names]
  have hexec : exec (.debounceExpiry l) s = .next (s.debounceEnds l) := congrArg Host.Outcome.next (if_pos hdue)
  have hends (settled : State) (h : s.modLine l (fun x => { x with level := x.raw, debounceTimer := none }) = settled) :
      s.debounceEnds l = if e.names (s.line l).raw = true then settled.handEdge l (s.line l).raw a else settled := by
    simp only [State.debounceEnds, hconfig, and_iff_right hraw, h]
  dsimp only
  generalize hsettled : ({ s with
    lines := s.lines.set l { s.line l with level := (s.line l).raw, debounceTimer := none } } : State) = settled
  rw [hexec, hends settled hsettled]
  simp only [hnames]
  split
  next hedge =>
    have hfollows : settled.Follows (settled.handEdge l (s.line l).raw a) := .handEdge
    have hline (m : LineIx) : settled.line m =
        if l = m then { s.line l with level := (s.line l).raw, debounceTimer := none } else s.line m := by
      rw [← hsettled]
      exact State.line_modLine (f := fun x => { x with level := x.raw, debounceTimer := none })
    have hown : (settled.handEdge l (s.line l).raw a).line l =
        { s.line l with level := (s.line l).raw, debounceTimer := none } := by
      have hsame := hline l
      rw [if_pos rfl] at hsame
      rw [(hfollows.lines l).eq_of_input (by rw [hsame]; simp [Line.cueScreen, hconfig]), hsame]
    refine ⟨_, rfl, State.handEdge_eq, by rw [hown], by rw [hown], fun i => ?_, fun m hm => ?_, ?_⟩
    · rw [State.scr_handEdge, ← hsettled]
      rfl
    · have hother := hfollows.lines m
      rw [hline m, if_neg (Ne.symm hm)] at hother
      exact hother
    · obtain ⟨screens, lines, queue, path, h⟩ := hfollows.moves
      rw [h, ← hsettled]
  next => rfl

end Sys2Proof.Machine
end

section
/-! The checks of a list of actions, and the requests of the cue list (sections 8.1, 8.2 and 8.5). -/

namespace Sys2Proof.Machine

/-! ### The first that fails -/

theorem firstIndex_eq_none {α : Type} {p : α → Bool} {l : List α} (h : firstIndex p l = none) : ∀ x ∈ l, p x = false := by
  induction l with
  | nil => exact fun x hx => (nomatch hx)
  | cons a rest ih =>
    unfold firstIndex at h
    split at h
    next => cases h
    next ha =>
      intro x hx
      rcases List.mem_cons.mp hx with rfl | hx
      · exact Bool.eq_false_iff.mpr ha
      · exact ih (Option.map_eq_none_iff.mp h) x hx

theorem firstIndex_eq_some {α : Type} {p : α → Bool} {l : List α} {k : Nat} (h : firstIndex p l = some k) :
    ∃ before bad after, l = before ++ bad :: after ∧ k = before.length + 1 ∧ p bad = true ∧ ∀ x ∈ before, p x = false := by
  induction l generalizing k with
  | nil => cases h
  | cons a rest ih =>
    unfold firstIndex at h
    split at h
    next ha =>
      cases h
      exact ⟨[], a, rest, rfl, rfl, ha, fun x hx => (nomatch hx)⟩
    next ha =>
      obtain ⟨j, hj, rfl⟩ := Option.map_eq_some_iff.mp h
      obtain ⟨before, bad, after, rfl, rfl, hbad, hbefore⟩ := ih hj
      refine ⟨a :: before, bad, after, rfl, rfl, hbad, fun x hx => ?_⟩
      rcases List.mem_cons.mp hx with rfl | hx
      · exact Bool.eq_false_iff.mpr ha
      · exact hbefore x hx

/-- What every item reads as, when each reads as something. -/
theorem map_eq_map_some_filterMap {α β : Type} {f : α → Option β} {l : List α} (h : ∀ x ∈ l, f x ≠ none) :
    l.map f = (l.filterMap f).map some := by
  induction l with
  | nil => rfl
  | cons a rest ih =>
    obtain ⟨b, hb⟩ := Option.ne_none_iff_exists'.mp (h a List.mem_cons_self)
    rw [List.map_cons, List.filterMap_cons_some hb, List.map_cons, hb, ih fun x hx => h x (List.mem_cons_of_mem a hx)]

theorem ne_none_of_isNone_false {α : Type} {o : Option α} (h : o.isNone = false) : o ≠ none := by
  rintro rfl
  cases h

/-! ### The two checks -/

section
variable {s : State} {i : ScreenIx} {raw : List RawAction}

theorem State.checkActions_of_number (h : raw.length = 0 ∨ 4 < raw.length) : s.checkActions i raw = .error 0 := if_pos h

theorem State.checkActions_ok {l : List CueAction} (h : s.checkActions i raw = .ok l) :
    raw.map actionOf = l.map some ∧ ∀ a ∈ l, s.actionFault i a = none := by
  unfold State.checkActions at h
  split at h
  next => cases h
  next =>
    split at h
    next => cases h
    next hread =>
      dsimp only at h
      split at h
      next => cases h
      next htarget =>
        cases h
        refine ⟨map_eq_map_some_filterMap fun r hr => ?_, fun a ha => ?_⟩
        · exact ne_none_of_isNone_false (firstIndex_eq_none hread r hr)
        · simpa using firstIndex_eq_none htarget a ha

theorem State.checkActions_error {k : Nat} (h : s.checkActions i raw = .error k) (hone : 1 ≤ raw.length)
    (hfour : raw.length ≤ 4) :
    ∃ before bad after, raw = before ++ bad :: after ∧ k = before.length + 1 ∧
      ((actionOf bad = none ∧ ∀ r ∈ before, actionOf r ≠ none) ∨
        ((∀ r ∈ raw, actionOf r ≠ none) ∧ (∃ a, actionOf bad = some a ∧ s.actionFault i a ≠ none) ∧
          ∀ r ∈ before, ∀ a, actionOf r = some a → s.actionFault i a = none)) := by
  unfold State.checkActions at h
  rw [if_neg (by omega)] at h
  split at h
  next j hj =>
    cases h
    obtain ⟨before, bad, after, hraw, hlength, hbad, hbefore⟩ := firstIndex_eq_some hj
    refine ⟨before, bad, after, hraw, hlength, .inl ⟨by simpa using hbad, fun r hr => ?_⟩⟩
    exact ne_none_of_isNone_false (hbefore r hr)
  next hread =>
    have hsome (r : RawAction) (hr : r ∈ raw) : actionOf r ≠ none :=
      ne_none_of_isNone_false (firstIndex_eq_none hread r hr)
    dsimp only at h
    split at h
    next j hj =>
      cases h
      obtain ⟨before', bad', after', hactions, hlength, hbad, hbefore⟩ := firstIndex_eq_some hj
      have hmap := map_eq_map_some_filterMap hsome
      rw [hactions, List.map_append, List.map_cons] at hmap
      obtain ⟨before, rest, hraw, hmapBefore, hmapRest⟩ := List.map_eq_append_iff.mp hmap
      obtain ⟨bad, after, hrest, hread', -⟩ := List.map_eq_cons_iff.mp hmapRest
      have hsame : before.length = before'.length := by
        simpa using congrArg List.length hmapBefore
      refine ⟨before, bad, after, by rw [hraw, hrest], by rw [hlength, hsame], .inr ⟨hsome, ⟨bad', hread', ?_⟩, ?_⟩⟩
      · exact Option.isSome_iff_ne_none.mp hbad
      · intro r hr a ha
        have hmem : some a ∈ before'.map some := by
          rw [← hmapBefore, ← ha]
          exact List.mem_map_of_mem hr
        simpa using hbefore a (by simpa using hmem)
    next => cases h

end

/-! ### What an action and a condition read as -/

theorem lineOf_eq {n : Nat} : lineOf n = if 1 ≤ n ∧ n ≤ 20 then some (Fin.ofNat 20 (n - 1)) else none := by
  split
  next h =>
    rw [lineOf_of_mem h]
    congr 1
    exact Fin.ext (Nat.mod_eq_of_lt (by omega)).symm
  next h => exact lineOf_eq_none h

theorem formatOf_eq {n : Nat} :
    formatOf n =
      if n = 0 then some .mono else if n = 1 then some .stereo else if n = 2 then some .matrix
      else if n = 3 then some .discrete6 else if n = 4 then some .discrete8 else none := by
  match n with
  | 0 | 1 | 2 | 3 | 4 => rfl
  | n + 5 => simp [formatOf]

theorem letterOf_eq {n : Nat} : letterOf n = if n = 0 then some .a else if n = 1 then some .b else none := by
  match n with
  | 0 | 1 => rfl
  | n + 2 => simp [letterOf]

theorem onOf_eq {n : Nat} : onOf n = if n ≤ 1 then some (decide (n = 1)) else none := by
  match n with
  | 0 | 1 => rfl
  | n + 2 => simp [onOf]

theorem targetOf_eq {n : Nat} :
    targetOf n = if n = 0 then some none else if n ≤ 32 then some (some (Fin.ofNat 32 (n - 1))) else none := by
  unfold targetOf
  split
  next => rfl
  next hn =>
    split
    next hle =>
      rw [presetOf, dif_pos ⟨by omega, hle⟩]
      exact congrArg (fun p => some (some p)) (Fin.ext (Nat.mod_eq_of_lt (by omega)).symm)
    next hle =>
      rw [presetOf, dif_neg fun h => hle h.2]
      rfl

/-- A line that is no CUE output of the screen is no target (R160). -/
theorem State.cueScreen_fault {s : State} {i : ScreenIx} {l : LineIx} :
    (if (s.line l).cueScreen = some i then none else some CueFault.notCueLine) =
      match (s.line l).config with
      | .output (.cue j _) _ => if j = i then none else some .notCueLine
      | _ => some .notCueLine := by
  unfold Line.cueScreen
  cases (s.line l).config with
  | input => rfl
  | output f invert => cases f <;> simp

theorem if_then_if {α : Type} {p q : Prop} [Decidable p] [Decidable q] {a b : α} :
    (if p then if q then a else b else b) = if p ∧ q then a else b := by
  by_cases hp : p
  · simp only [hp, if_true, true_and]
  · simp only [hp, if_false, false_and]

/-- Settles O23: the two checks by the first index that fails, and the readings field by field. -/
theorem firstBadActionIsNamed : Obligations.FirstBadActionIsNamed := by
  refine ⟨fun s i raw hone hfour => ?_, fun s i raw => State.checkActions_of_number, fun r => ?_, fun r => ?_,
    fun s i a => ?_⟩
  · split
    next l hok => exact State.checkActions_ok hok
    next k herror => exact State.checkActions_error herror hone hfour
  · cases r with
    | fader | offset | mark | unknown => rfl
    | mute =>
      simp only [actionOf, onOf_eq, apply_ite (Option.map _), Option.map_some, Option.map_none]
      exact if_then_if
    | preset => simp only [actionOf, targetOf_eq, apply_ite (Option.map _), Option.map_some, Option.map_none]
    | format => simp only [actionOf, forcedOf, formatOf_eq, apply_ite (Option.map _), Option.map_some, Option.map_none]
    | source => simp only [actionOf, letterOf_eq, apply_ite (Option.map _), Option.map_some, Option.map_none]
    | lineSet | lineClear | lineToggle | linePulse =>
      simp only [actionOf, lineOf_eq, apply_ite (Option.map _), Option.map_some, Option.map_none]
    | clock => simp only [actionOf, clockCommandOf_eq, apply_ite (Option.map _), Option.map_some, Option.map_none]
  · cases r with
    | absent | unknown => rfl
    | lineLevel n on =>
      simp only [conditionOf, lineOf_eq, onOf_eq]
      by_cases hn : 1 ≤ n ∧ n ≤ 20
      · by_cases hon : on ≤ 1
        · rw [if_pos hn, if_pos hon, if_pos ⟨hn.1, hn.2, hon⟩]
        · rw [if_pos hn, if_neg hon, if_neg fun h => hon h.2.2]
      · simp only [if_neg hn, if_neg fun h : 1 ≤ n ∧ n ≤ 20 ∧ on ≤ 1 => hn ⟨h.1, h.2.1⟩]
    | format => simp only [conditionOf, formatOf_eq, apply_ite (Option.map _), Option.map_some, Option.map_none]
    | playing => simp only [conditionOf, letterOf_eq, apply_ite (Option.map _), Option.map_some, Option.map_none]
  · cases a with
    | preset target =>
      cases target with
      | none => rfl
      | some p => simp only [State.actionFault, State.targetEmpty, Option.isNone_iff_eq_none]
    | lineSet l | lineClear l | lineToggle l | linePulse l => exact State.cueScreen_fault
    | _ => rfl

end Sys2Proof.Machine
end

section
/-! The requests of the cue list and of the immediate slot (sections 8.2 and 8.5). -/

namespace Sys2Proof.Machine

section
variable {s : State} {q : Req} {i : ScreenIx} {number time : Nat}

/-! ### LOAD_CUE -/

theorem cueNumberValid_of_mem (hlow : 1 ≤ number) (hhigh : number ≤ 9999) : cueNumberValid number = true :=
  cueNumberValid_iff.mpr ⟨hlow, hhigh⟩

/-- LOAD_CUE with its fields in range is decided by its actions. -/
theorem loadCueRule_eq {condition : RawCondition} {actions : List RawAction} {c : Option Condition}
    (hnumber : isCueNumber number) (htime : time < 4294967295) (hcondition : conditionOf condition = some c) :
    loadCueRule (i.val + 1) number time condition actions s =
      match s.checkActions i actions with
      | .error k => (s, [0x02, BitVec.ofNat 8 k])
      | .ok l =>
        if (s.findCue i number).isNone ∧ s.cuesFree = 0 then (s, [0x04])
        else
          let state : CueState := if (s.scr i).clock.position < time then .armed else .passed
          let e : CueEntry := { number := number, time := time, condition := c, actions := l, state := state }
          let t := s.modCues i (fun cues => insertCue e (removeCue number cues))
          (t, 0x00 :: u16 number ++ [BitVec.ofNat 8 state.code] ++ u16 t.cuesFree) := by
  have hok : ¬ (¬ cueNumberValid number = true ∨ ¬ time < Config.absentPosition) := by
    simp only [cueNumberValid_iff.mpr hnumber, Config.absentPosition, htime, not_true_eq_false, or_self, not_false_eq_true]
  simp only [loadCueRule, screenOf_code, hcondition, if_neg hok]
  cases s.checkActions i actions <;> rfl

theorem State.cues_modCues {f : List CueEntry → List CueEntry} : ((s.modCues i f).scr i).cues = f (s.scr i).cues := by
  rw [State.scr_modCues, if_pos rfl]

theorem mem_removeCue {e : CueEntry} {l : List CueEntry} : e ∈ removeCue number l ↔ e ∈ l ∧ e.number ≠ number := by
  simp [removeCue]

end

/-- Settles O24: the three ends of LOAD_CUE. -/
theorem loadCueSetsEntry : Obligations.LoadCueSetsEntry := by
  intro s q i number time condition actions c hlow hhigh htime hcondition hserved
  have hrule := loadCueRule_eq (s := s.beginService) (i := i) (actions := actions) ⟨hlow, hhigh⟩ htime hcondition
  have hactions : s.beginService.checkActions i actions = s.checkActions i actions := rfl
  rw [hactions] at hrule
  dsimp only
  split
  next k hk =>
    rw [hk] at hrule
    exact exec_served_of rfl hserved hrule
  next l hl =>
    rw [hl] at hrule
    dsimp only at hrule
    have hfull : ((s.beginService.findCue i number).isNone = true ∧ s.beginService.cuesFree = 0) ↔
        (∀ e ∈ (s.scr i).cues, e.number ≠ number) ∧ s.cuesFree = 0 := by
      rw [Option.isNone_iff_eq_none, State.findCue_eq_none]
      rfl
    split
    next h =>
      rw [if_pos (hfull.mpr h)] at hrule
      exact exec_served_of rfl hserved hrule
    next h =>
      rw [if_neg (mt hfull.mp h)] at hrule
      have hcode : BitVec.ofNat 8 (if (s.scr i).clock.position < time then CueState.armed else .passed).code =
          (if (s.scr i).clock.position < time then 0x00 else 0x02 : Byte) := by
        split <;> rfl
      refine ⟨_, exec_served_of rfl hserved hrule, fun e => ?_, ?_⟩
      · rw [State.scr_pushPath, State.cues_modCues, mem_insertCue, mem_removeCue]
        rfl
      · rw [State.scr_pushPath, State.cues_modCues, ← hcode]
        rfl

/-- Settles O25: an entry found or not, and the whole list. -/
theorem dropAndClearCues : Obligations.DropAndClearCues := by
  refine ⟨fun s q i number hlow hhigh hserved => ?_, fun s q i hserved => ?_⟩
  · have hvalid := cueNumberValid_of_mem hlow hhigh
    refine (exec_served rfl hserved).trans ?_
    simp only [ruleOf, dropCueRule, screenOf_code, hvalid, if_true, State.findCue, State.scr_beginService]
    cases (s.scr i).cues.find? (fun e => decide (e.number = number)) <;> rfl
  · refine exec_served_of rfl hserved ?_
    simp only [ruleOf, clearCuesRule, screenOf_code]
    rfl

section
variable {s : State} {i : ScreenIx} {number : Nat}

theorem fireRule_eq (hlow : 1 ≤ number) (hhigh : number ≤ 9999) :
    fireRule (i.val + 1) number s =
      match (s.scr i).cues.find? (fun e => e.number = number) with
      | none => (s, [0x07])
      | some e =>
        if (s.scr i).immediate = .empty then
          (s.setImmediate i (.cue number .request), [0x00, BitVec.ofNat 8 e.state.code])
        else (s, [0x01]) := by
  simp only [fireRule, screenOf_code, cueNumberValid_of_mem hlow hhigh, if_true, State.findCue]
  rfl

theorem fireActionsRule_ok {raw : List RawAction} {l : List CueAction} (h : s.checkActions i raw = .ok l) :
    fireActionsRule (i.val + 1) raw s =
      if (s.scr i).immediate = .empty then (s.setImmediate i (.actions l .request), [0x00]) else (s, [0x01]) := by
  simp only [fireActionsRule, screenOf_code, h]
  rfl

theorem fireActionsRule_error {raw : List RawAction} {k : Nat} (h : s.checkActions i raw = .error k) :
    fireActionsRule (i.val + 1) raw s = (s, [0x02, BitVec.ofNat 8 k]) := by
  simp only [fireActionsRule, screenOf_code, h]
  rfl

end

/-- Settles O26: the entry and the slot decide FIRE, the checks and the slot decide FIRE_ACTIONS. -/
theorem fireFillsImmediateSlot : Obligations.FireFillsImmediateSlot := by
  refine ⟨fun s q i number hlow hhigh hserved => ?_, fun s q i raw l hok hserved => ?_, fun s q i raw k herror hserved => ?_,
    fun s i raw => State.checkActions_of_number⟩
  · have hrule := fireRule_eq (s := s.beginService) (i := i) hlow hhigh
    rw [State.scr_beginService] at hrule
    cases hfind : (s.scr i).cues.find? (fun e => decide (e.number = number)) with
    | none =>
      rw [hfind] at hrule
      exact exec_served_of rfl hserved hrule
    | some e =>
      rw [hfind] at hrule
      dsimp only at hrule ⊢
      by_cases hempty : (s.scr i).immediate = .empty
      · rw [if_pos hempty] at hrule ⊢
        exact exec_served_of rfl hserved hrule
      · rw [if_neg hempty] at hrule ⊢
        exact exec_served_of rfl hserved hrule
  · have hrule := fireActionsRule_ok (s := s.beginService) (show s.beginService.checkActions i raw = .ok l from hok)
    by_cases hempty : (s.scr i).immediate = .empty
    · rw [if_pos hempty]
      exact exec_served_of rfl hserved (hrule.trans (if_pos hempty))
    · rw [if_neg hempty]
      exact exec_served_of rfl hserved (hrule.trans (if_neg hempty))
  · exact exec_served_of rfl hserved
      (fireActionsRule_error (s := s.beginService) (show s.beginService.checkActions i raw = .error k from herror))

end Sys2Proof.Machine
end

section
/-! The gain stage's requests and the movement of its terms (sections 3.2 and 3.3). -/

namespace Sys2Proof.Machine

/-! ### Requests -/

theorem State.gain_modGain {s : State} {i : ScreenIx} {f : Gain → Gain} : ((s.modGain i f).scr i).gain = f (s.scr i).gain := by
  rw [State.scr_modGain, if_pos rfl]

/-- Settles O40: each request sets its terms and replies them. -/
theorem gainRequests : Obligations.GainRequests := by
  refine ⟨fun s q i position ramp hposition hramp hserved => ?_, fun s q i position hposition hserved => ?_,
    fun s q i mask trim hserved => ?_, fun s q i mask on hserved => ?_⟩
  · refine exec_served_of rfl hserved ?_
    simp only [ruleOf, setFaderRule, screenOf_code, if_pos (And.intro hposition hramp), State.gain_modGain]
    rfl
  · refine exec_served_of rfl hserved ?_
    simp only [ruleOf, setLimitRule, screenOf_code, if_pos hposition, State.gain_modGain]
    rfl
  · refine exec_served_of rfl hserved ?_
    simp only [ruleOf, setTrimRule, screenOf_code, State.gain_modGain, listField_eq_flatMap, Vector.length_toList]
    rfl
  · refine exec_served_of rfl hserved ?_
    simp only [ruleOf, setMuteRule, screenOf_code, onOf_boolCode, State.gain_modGain, listField_eq_flatMap,
      Vector.length_toList]
    rfl

/-! ### A step toward a target -/

theorem natAbs_stepToward {current target : Int} {rate : Nat} :
    (target - stepToward current target rate).natAbs = (target - current).natAbs - rate := by
  unfold stepToward
  split <;> omega

/-- What is left of the way after a number of boundaries. -/
theorem natAbs_repeat_stepToward {current target : Int} {rate n : Nat} :
    (target - Nat.repeat (fun v => stepToward v target rate) n current).natAbs = (target - current).natAbs - n * rate := by
  induction n with
  | zero => simp [Nat.repeat]
  | succ n ih =>
    rw [Nat.repeat, natAbs_stepToward, ih, Nat.succ_mul, Nat.sub_sub]

theorem repeat_stepToward_eq {current target : Int} {rate n : Nat} (h : (target - current).natAbs ≤ n * rate) :
    Nat.repeat (fun v => stepToward v target rate) n current = target := by
  have hleft := natAbs_repeat_stepToward (current := current) (target := target) (rate := rate) (n := n)
  rw [Nat.sub_eq_zero_of_le h] at hleft
  omega

theorem stepToward_eq {current target : Int} {rate : Nat} :
    stepToward current target rate =
      if current < target then min target (current + rate) else max target (current - rate) := by
  unfold stepToward
  split
  · rfl
  · split <;> omega

/-- A ramp's rate covers the way in the ramp's time (R51). -/
theorem le_mul_rampRate {current target : Int} {d : Nat} (hd : 0 < d) :
    (target - current).natAbs ≤ d * rampRate current target d := by
  have hdiv := Nat.lt_mul_div_succ ((target - current).natAbs + d - 1) hd
  rw [Nat.mul_succ] at hdiv
  unfold rampRate
  omega

/-- Settles O41: one step, many steps, and the steps of a boundary. -/
theorem termsReachTheirTargets : Obligations.TermsReachTheirTargets := by
  refine ⟨fun current target rate => ⟨?_, ?_, ?_, fun _ n => repeat_stepToward_eq, fun d hd => ?_⟩, fun g => ?_⟩
  · rw [stepToward_eq]
    split <;> omega
  · rw [stepToward_eq]
    split <;> omega
  · rw [stepToward_eq]
    split <;> omega
  · exact repeat_stepToward_eq (le_mul_rampRate hd)
  · have hoffsets : g.offsets.map Ramp.step = Vector.ofFn (fun b : Fin 8 => (g.offsets[b]).step) := by
      ext b hb
      simp
    have hmutes : g.mutes.map (Stepped.step 24) = Vector.ofFn (fun b : Fin 8 => (g.mutes[b]).step 24) := by
      ext b hb
      simp
    simp only [Gain.step, hoffsets, hmutes, Ramp.step, Stepped.step, stepToward_eq]

end Sys2Proof.Machine
end

section
/-! The settings of the alarms and of the guard, ACK_ALARM, and the timeout of a slot (sections 6.4, 6.6 and 1.5). -/

namespace Sys2Proof.Machine

/-! ### SET_ALARM and SET_GUARD -/

section
variable {s : State} {i : ScreenIx}

theorem State.alarms_modAlarms {f : Alarms → Alarms} : ((s.modAlarms i f).scr i).alarms = f (s.scr i).alarms := by
  rw [State.scr_modAlarms, if_pos rfl]

theorem State.guard_modGuard {f : GuardBlock → GuardBlock} : ((s.modGuard i f).scr i).guard = f (s.scr i).guard := by
  rw [State.scr_modGuard, if_pos rfl]

theorem Alarms.get_configure {a : Alarms} {k : AlarmKind} {set : AlarmSettings} {id : AlarmId} :
    (a.configure k set).get id = if id.kind = k then Alarm.reset else a.get id := by
  cases k <;> cases id <;> simp [Alarms.configure, Alarms.get, AlarmId.kind]

theorem Alarms.settings_configure {a : Alarms} {k k' : AlarmKind} {set : AlarmSettings} :
    (a.configure k set).settings k' = if k' = k then set else a.settings k' := by
  cases k <;> cases k' <;> rfl

/-- The guard's new block, field by field (R126). -/
theorem GuardBlock.configure_eq {g : GuardBlock} {on : Bool} {step interval release : Nat} {floor : Int} :
    g.configure on step interval floor release =
      { enabled := on, value := if on = true ∧ g.enabled = true then max g.value floor else 0, step := step,
        interval := interval, floor := floor, release := release,
        stepTimer := if on = true ∧ g.enabled = true then min g.stepTimer (interval / 10) else interval / 10,
        releaseCount := if on = true ∧ g.enabled = true then min g.releaseCount (release / 10) else 0,
        direction := if on = true ∧ g.enabled = true then g.direction else .none } := by
  unfold GuardBlock.configure
  by_cases h : on = true ∧ g.enabled = true
  · obtain ⟨rfl, henabled⟩ := h
    simp [henabled]
  · simp only [Bool.and_eq_true, if_neg h]

end

/-- Settles O29: both requests in their ranges. -/
theorem alarmAndGuardSettings : Obligations.AlarmAndGuardSettings := by
  refine ⟨fun s q i k threshold hysteresis raise clear interval count latch hover hclip hsilence hraise hclear hlow hhigh
    hcount => ?_, fun s q i on step interval floor release hstep hstep' hinterval hinterval' hfloor hfloor' hrelease
    hrelease' hserved => ?_⟩
  · intro command hserved
    have hthresholds : thresholdsValid k threshold hysteresis = true := by
      refine thresholdsValid_iff.mpr ⟨fun h => hover ?_, fun h => hclip ?_, fun h => hsilence ?_⟩ <;>
        (cases k <;> first | rfl | cases h)
    have hraise' : roundUpTen raise ≤ 600000 := (roundUpTen_le_iff (bound := 60000)).mpr hraise
    have hclear' : roundUpTen clear ≤ 600000 := (roundUpTen_le_iff (bound := 60000)).mpr hclear
    obtain ⟨set, hset⟩ : ∃ set : AlarmSettings, set =
        { threshold := if k = .stream then 0 else threshold, hysteresis := if k = .overLevel then hysteresis else 0,
          raiseDwell := (raise + 9) / 10 * 10, clearDwell := (clear + 9) / 10 * 10, latch := latch,
          remindInterval := interval, remindLimit := count } := ⟨_, rfl⟩
    have hrule : ruleOf command s.beginService =
        (s.beginService.modAlarms i (fun a => a.configure k set), 0x00 :: settingsFields k set) := by
      simp only [command, ruleOf, setAlarmRule, screenOf_code, alarmKindOf_code, onOf_boolCode]
      rw [if_pos ⟨hthresholds, hraise', hclear', hlow, hhigh, hcount⟩, hset]
      rfl
    refine ⟨_, exec_served_of rfl hserved hrule, ?_⟩
    simp only [State.scr_pushPath, State.alarms_modAlarms, Alarms.get_configure, Alarms.settings_configure, if_true]
    exact ⟨fun _ => rfl, fun k' hk' => if_neg hk', hset, rfl⟩
  · have hround (ms bound : Nat) (h : ms ≤ bound * 10) : roundUpTen ms ≤ bound * 10 := roundUpTen_le_iff.mpr h
    have hinterval'' : 100 ≤ roundUpTen interval := by unfold roundUpTen; omega
    have hrelease'' : 1000 ≤ roundUpTen release := by unfold roundUpTen; omega
    refine exec_served_of rfl hserved ?_
    simp only [ruleOf, setGuardRule, screenOf_code, onOf_boolCode]
    rw [if_pos ⟨hstep, hstep', hfloor, hfloor', hinterval'', hround _ 500 hinterval', hrelease'', hround _ 6000 hrelease'⟩]
    simp only [State.guard_modGuard, GuardBlock.configure_eq, GuardBlock.settingsFields, flag_eq]
    rfl

/-! ### ACK_ALARM -/

section
variable {s : State} {i : ScreenIx} {id : AlarmId}

theorem State.acknowledge_of_waiting (h : ((s.scr i).alarms.get id).state = .idle ∨ ((s.scr i).alarms.get id).state = .pending) :
    s.acknowledge i id = (s, .state) := by
  unfold State.acknowledge
  dsimp only
  rcases h with h | h <;> rw [h]

theorem State.acknowledge_of_latched (h : ((s.scr i).alarms.get id).state = .latched) :
    s.acknowledge i id =
      let t := s.modAlarms i (fun a => a.put id Alarm.reset)
      (t.post .alarmCleared i ((t.scr i).alarmDetail id), .ok) := by
  unfold State.acknowledge
  dsimp only
  rw [h]

/-- RAISED or CLEARING (R114). -/
def AlarmState.standing (x : AlarmState) : Prop := ¬ (x = .idle ∨ x = .pending) ∧ x ≠ .latched

theorem State.acknowledge_again (hstate : ((s.scr i).alarms.get id).state.standing)
    (h : ((s.scr i).alarms.get id).acknowledged = true) : s.acknowledge i id = (s, .ok) := by
  obtain ⟨hwaiting, hlatched⟩ := hstate
  unfold State.acknowledge
  dsimp only
  split <;> simp_all

theorem State.acknowledge_first (hstate : ((s.scr i).alarms.get id).state.standing)
    (h : ¬ ((s.scr i).alarms.get id).acknowledged = true) :
    s.acknowledge i id =
      let t := s.modAlarms i (fun a => a.put id { (s.scr i).alarms.get id with acknowledged := true })
      (t.post .alarmAcked i ((t.scr i).alarmDetail id), .ok) := by
  obtain ⟨hwaiting, hlatched⟩ := hstate
  unfold State.acknowledge
  dsimp only
  split <;> simp_all

theorem Alarms.get_put {a : Alarms} {x : Alarm} : (a.put id x).get id = x := by
  cases id <;> simp [Alarms.put, Alarms.get]

end

/-- Settles O30: the five states of an alarm, and the fields out of range. -/
theorem acknowledgeByState : Obligations.AcknowledgeByState := by
  refine ⟨fun s q i k bus id hid hserved => ?_, fun s q n kind bus hrange hserved => exec_refused hserved rfl hrange⟩
  have hrule : ruleOf (.ackAlarm q (i.val + 1) k.code bus) s.beginService =
      ((s.beginService.acknowledge i id).1,
        [(s.beginService.acknowledge i id).2.code,
          BitVec.ofNat 8 (((s.beginService.acknowledge i id).1.scr i).alarms.get id).state.code]) := by
    simp only [ruleOf, ackAlarmRule, screenOf_code, alarmKindOf_code, hid]
    rfl
  rw [exec_served rfl hserved, hrule]
  dsimp only
  by_cases hwaiting : ((s.scr i).alarms.get id).state = .idle ∨ ((s.scr i).alarms.get id).state = .pending
  · rw [if_pos hwaiting, State.acknowledge_of_waiting (s := s.beginService) hwaiting]
    rfl
  rw [if_neg hwaiting]
  by_cases hlatched : ((s.scr i).alarms.get id).state = .latched
  · rw [if_pos hlatched, State.acknowledge_of_latched (s := s.beginService) hlatched, State.scr_post, State.alarms_modAlarms,
      Alarms.get_put]
    rfl
  rw [if_neg hlatched]
  by_cases hacknowledged : ((s.scr i).alarms.get id).acknowledged = true
  · rw [if_pos hacknowledged, State.acknowledge_again (s := s.beginService) ⟨hwaiting, hlatched⟩ hacknowledged]
    rfl
  · rw [if_neg hacknowledged, State.acknowledge_first (s := s.beginService) ⟨hwaiting, hlatched⟩ hacknowledged,
      State.scr_post, State.alarms_modAlarms, Alarms.get_put]
    rfl

/-! ### LOST_TIMEOUT -/

/-- A screen put in its place without a pace message. -/
theorem State.put_nil {s : State} {i : ScreenIx} {c : Screen} : s.put i c [] = { s with screens := s.screens.set i c } := by
  rw [State.put, List.append_nil]

theorem State.lostDue_iff {s : State} {i : ScreenIx} {l : Letter} :
    s.lostDue i l = true ↔
      ((s.slot i l).state = .filling ∨ (s.slot i l).state = .ready ∨ (s.slot i l).state = .starved) ∧
        ∃ since, (s.slot i l).lastAccepted = some since ∧ 250 ≤ (s.time - since).toNat := by
  simp only [State.lostDue, Bool.and_eq_true]
  refine and_congr ?_ ?_
  · split <;> simp_all
  · split <;> simp_all [elapsed]

/-- Settles O37: the timeout due, and not due. -/
theorem lostAfterTimeout : Obligations.LostAfterTimeout := by
  intro s i l
  refine ⟨fun since hcounts hsince hdue => ?_, fun hnot => ?_⟩
  · refine congrArg Host.Outcome.next ((if_pos (State.lostDue_iff.mpr ⟨hcounts, since, hsince, hdue⟩)).trans ?_)
    have hlost : (s.slot i l).state ≠ SlotState.lost := by
      rcases hcounts with h | h | h <;> rw [h] <;> decide
    rw [State.modSlot_eq_put, State.enterSlotState_eq]
    simp only [State.put_put, State.scr_put_same, State.slot_put_same, Intake.slot_setSlot_same, Intake.setSlot_setSlot,
      List.append_nil, State.told, if_neg hlost]
    rw [State.put_nil]
    rfl
  · refine congrArg Host.Outcome.next (if_neg fun hdue => ?_)
    obtain ⟨hcounts, since, hsince, hlong⟩ := State.lostDue_iff.mp hdue
    rcases hnot with hnot | hnot
    · exact hnot hcounts
    · exact absurd (hnot since hsince) (Nat.not_lt.mpr hlong)

end Sys2Proof.Machine
end

section
/-! The binding requests and SET_INTAKE (sections 1.2 and 1.4). -/

namespace Sys2Proof.Machine

section
variable {s : State} {i : ScreenIx} {l : Letter} {x : Slot} {start : Nat}

/-! ### BIND, UNBIND, SET_SOURCE and LIST_SEEN -/

theorem State.scr_with_seen {seen : List SeenEntry} : State.scr { s with seen := seen } i = s.scr i := rfl

theorem bindRule_inUse {id : StreamId} (hid : id ≠ 0)
    (h : (s.slot i l).state ≠ .empty ∨ ∃ j m, (s.slot j m).streamId = some id) :
    bindRule (i.val + 1) l.code id s = (s, [0x06]) := by
  have huse : (s.slot i l).state ≠ .empty ∨ (s.holder id).isSome = true := by
    refine h.imp_right fun ⟨j, m, hjm⟩ => Option.isSome_iff_ne_none.mpr fun hnone => ?_
    exact State.holder_eq_none.mp hnone j m hjm
  simp only [bindRule, screenOf_code, letterOf_code, if_neg hid]
  rw [if_pos huse]
  rfl

theorem bindRule_empty {id : StreamId} (hid : id ≠ 0) (hstate : (s.slot i l).state = .empty)
    (hfree : ∀ j m, (s.slot j m).streamId ≠ some id) :
    bindRule (i.val + 1) l.code id s =
      (State.post
        { s with
          screens := s.screens.set i
            { s.scr i with
              intake := (s.scr i).intake.setSlot l
                { state := .waiting, streamId := some id, source := none, holding := false, lastAccepted := none,
                  expected := none, buffer := [] } },
          seen := s.seen.filter (fun e => e.streamId ≠ id) } .streamState i
          ([BitVec.ofNat 8 l.code] ++ u32 id.toNat ++ [0x00, 0x01, 0x00, 0x00]), [0x00]) := by
  have huse : ¬ ((s.slot i l).state ≠ .empty ∨ (s.holder id).isSome = true) := by
    rw [State.holder_eq_none.mpr hfree]
    simp [hstate]
  simp only [bindRule, screenOf_code, letterOf_code, if_neg hid]
  rw [if_neg huse, State.enterSlotState_eq, State.modSlot_eq_put]
  have hput (c c' : Screen) (seen : List SeenEntry) :
      State.put { s.put i c [] with seen := seen } i c' [] = { s with screens := s.screens.set i c', seen := seen } := by
    simp [State.put]
  simp only [hput, State.slot_with_seen, State.scr_with_seen, State.slot_put_same, State.scr_put_same,
    Intake.slot_setSlot_same, Intake.setSlot_setSlot, State.told]
  rw [if_neg (by simp [hstate])]
  simp only [hstate]
  rfl

theorem unbindRule_eq :
    unbindRule (i.val + 1) l.code s =
      (if (s.slot i l).state = .empty then s
        else
          State.post
            { s with
              screens := s.screens.set i { s.scr i with intake := (s.scr i).intake.setSlot l Slot.reset },
              paceOut := s.paceOut ++ (s.slot i l).paceGo } .streamState i
            ([BitVec.ofNat 8 l.code] ++ u32 ((s.slot i l).streamId.getD 0xFFFFFFFF).toNat ++
              [BitVec.ofNat 8 (s.slot i l).state.code, 0x00, 0x00, 0x00]), [0x00]) := by
  simp only [unbindRule, screenOf_code, letterOf_code]
  split
  next => rfl
  next hbound =>
    rw [State.endHolding_eq_put, State.modSlot_eq_put]
    simp only [State.put_put, State.scr_put_same, Intake.setSlot_setSlot, List.append_nil, State.postSlotState,
      State.slot_put_same, Intake.slot_setSlot_same]
    rfl

/-- Settles O33: each request by its rule. -/
theorem bindingRequests : Obligations.BindingRequests := by
  refine ⟨fun s q i l id hid hserved => ⟨fun huse => ?_, fun hstate hfree => ?_⟩, fun s q i l hserved => ?_,
    fun s q i l hserved => ?_, fun s q n hn hserved => ?_⟩
  · exact exec_served_of rfl hserved (bindRule_inUse (s := s.beginService) hid huse)
  · exact exec_served_of rfl hserved (bindRule_empty (s := s.beginService) hid hstate hfree)
  · refine (exec_served_of rfl hserved (unbindRule_eq (s := s.beginService))).trans ?_
    by_cases hempty : (s.slot i l).state = .empty
    · rw [if_pos hempty, if_pos (show (s.beginService.slot i l).state = .empty from hempty)]
      rfl
    · rw [if_neg hempty, if_neg (show ¬ (s.beginService.slot i l).state = .empty from hempty)]
      rfl
  · refine exec_served_of rfl hserved ?_
    simp only [ruleOf, setSourceRule, screenOf_code, letterOf_code]
    rfl
  · refine exec_served_of rfl hserved ?_
    match n, hn with
    | 0, _ | 1, _ | 2, _ =>
      simp only [ruleOf, listSeenRule, listField_eq_flatMap, flag_eq]
      rfl

/-! ### SET_INTAKE: a slot in agreement with the settings (R16) -/

section
variable {k : Intake} {y : Slot}

/-- The agreement of a slot looks at that slot only. -/
theorem Intake.agreed_setSlot_of_ne {m : Letter} (h : m ≠ l) : (k.setSlot m y).agreed l = k.agreed l := by
  cases m <;> cases l <;> first | rfl | exact absurd rfl h

theorem Intake.agreedPace_setSlot_of_ne {m : Letter} (h : m ≠ l) : (k.setSlot m y).agreedPace l = k.agreedPace l := by
  cases m <;> cases l <;> first | rfl | exact absurd rfl h

theorem State.agree_agree :
    (s.agree i .a).agree i .b =
      let k := (s.scr i).intake
      ((s.put i { s.scr i with intake := (k.setSlot .a (k.agreed .a)).setSlot .b (k.agreed .b) }
        (k.agreedPace .a ++ k.agreedPace .b)).told i .a (s.slot i .a) (k.agreed .a)).told i .b (s.slot i .b)
          (k.agreed .b) := by
  have hb : ((s.scr i).intake.setSlot .a ((s.scr i).intake.agreed .a)).slot .b = s.slot i .b := rfl
  rw [State.agree_eq (s := s.agree i .a), State.agree_eq (s := s)]
  simp only [State.put_told, State.scr_told, State.scr_put_same, State.put_put, State.slot_told, State.slot_put_same, hb,
    Intake.agreed_setSlot_of_ne (k := (s.scr i).intake) (show Letter.a ≠ .b by decide),
    Intake.agreedPace_setSlot_of_ne (k := (s.scr i).intake) (show Letter.a ≠ .b by decide)]

theorem Slot.readied_eq :
    x.readied start =
      { x with
        state := .ready, buffer := x.buffer.drop (x.buffer.length - start),
        expected :=
          match (x.buffer.take (x.buffer.length - start)).getLast? with
          | some b => some (b.seq + 1)
          | none => x.expected } :=
  (congrArg (fun y : Slot => { y with state := SlotState.ready }) Slot.slide_eq).trans rfl

/-- The state and the blocks of a slot in agreement. -/
theorem Intake.settled_state :
    ((k.settled l).state, (k.settled l).buffer) =
      match (k.slot l).state with
      | .filling =>
        if k.start ≤ (k.slot l).buffer.length then
          (.ready, (k.slot l).buffer.drop ((k.slot l).buffer.length - k.start))
        else (.filling, (k.slot l).buffer)
      | .ready =>
        if k.start ≤ (k.slot l).buffer.length then
          (.ready, (k.slot l).buffer.drop ((k.slot l).buffer.length - k.start))
        else (.filling, (k.slot l).buffer)
      | .starved =>
        if k.start ≤ (k.slot l).buffer.length then
          if k.selection = l then (.playing, (k.slot l).buffer)
          else (.ready, (k.slot l).buffer.drop ((k.slot l).buffer.length - k.start))
        else (.starved, (k.slot l).buffer)
      | other => (other, (k.slot l).buffer) := by
  unfold Intake.settled
  generalize k.slot l = x
  cases hstate : x.state
  case filling => simp only [hstate, Slot.readied_eq]; split <;> simp only [hstate]
  case ready =>
    simp only [hstate, Slot.slide_eq]
    by_cases h : k.start ≤ x.buffer.length
    · simp only [if_pos h, if_neg (Nat.not_lt.mpr h)]
    · simp only [if_neg h, if_pos (Nat.lt_of_not_le h)]
  case starved =>
    simp only [hstate, Slot.readied_eq]
    split
    · split <;> rfl
    · simp only [hstate]
  all_goals simp only [hstate]

/-- A slot in agreement is READY and slid down, or no block of it is lost. -/
theorem Intake.settled_cases :
    k.settled l = (k.slot l).readied k.start ∨ ∃ st ≠ .ready, k.settled l = { k.slot l with state := st } := by
  unfold Intake.settled
  generalize k.slot l = x
  cases hstate : x.state
  case filling =>
    simp only [hstate]
    split
    · exact .inl rfl
    · exact .inr ⟨.filling, by decide, by rw [← hstate]⟩
  case ready =>
    simp only [hstate]
    split
    · exact .inr ⟨.filling, by decide, rfl⟩
    · refine .inl ?_
      rw [Slot.readied, ← hstate, ← Slot.slide_state (start := k.start)]
  case starved =>
    simp only [hstate]
    split
    · split
      · exact .inr ⟨.playing, by decide, rfl⟩
      · exact .inl rfl
    · exact .inr ⟨.starved, by decide, by rw [← hstate]⟩
  all_goals
    simp only [hstate]
    exact .inr ⟨x.state, by rw [hstate]; decide, rfl⟩

/-- What the first half of the agreement leaves of a slot, and where it then stands. -/
theorem Intake.settled_rest :
    (k.settled l).streamId = (k.slot l).streamId ∧ (k.settled l).source = (k.slot l).source ∧
      (k.settled l).lastAccepted = (k.slot l).lastAccepted ∧ (k.settled l).holding = (k.slot l).holding ∧
      (k.settled l).expected =
        match (k.settled l).state, ((k.slot l).buffer.take ((k.slot l).buffer.length - k.start)).getLast? with
        | .ready, some b => some (b.seq + 1)
        | _, _ => (k.slot l).expected := by
  obtain h | ⟨st, hst, h⟩ := Intake.settled_cases (k := k) (l := l)
  · rw [h, Slot.readied_eq]
    refine ⟨rfl, rfl, rfl, rfl, ?_⟩
    cases ((k.slot l).buffer.take ((k.slot l).buffer.length - k.start)).getLast? <;> rfl
  · rw [h]
    refine ⟨rfl, rfl, rfl, rfl, ?_⟩
    cases st <;> first | rfl | exact absurd rfl hst

/-- A slot in agreement that plays has lost no block. -/
theorem Intake.settled_of_playing (h : (k.settled l).state = .playing) :
    k.settled l = { k.slot l with state := .playing } := by
  obtain hready | ⟨st, -, hst⟩ := Intake.settled_cases (k := k) (l := l)
  · rw [hready] at h
    cases h
  · rw [hst] at h ⊢
    cases h
    rfl

theorem Intake.agreed_eq :
    k.agreed l =
      { k.settled l with
        holding :=
          if (k.settled l).state = .playing then
            if (k.slot l).holding then k.pacing && decide (k.low < (k.slot l).buffer.length)
            else k.pacing && decide (k.high ≤ (k.slot l).buffer.length)
          else (k.slot l).holding } := by
  unfold Intake.agreed Intake.holds
  by_cases h : (k.settled l).state = .playing
  · simp only [h, if_true]
    rw [Intake.settled_of_playing h]
    cases (k.slot l).holding <;> rfl
  · obtain ⟨-, -, -, hholding, -⟩ := Intake.settled_rest (k := k) (l := l)
    simp only [if_neg h, ← hholding]

theorem Intake.agreedPace_eq :
    k.agreedPace l =
      if (k.agreed l).state = .playing then
        if (k.slot l).holding then
          if k.pacing && decide (k.low < (k.slot l).buffer.length) then [] else (k.slot l).paceGo
        else if k.pacing && decide (k.high ≤ (k.slot l).buffer.length) then
          (k.slot l).paceHold ((k.slot l).buffer.length - k.start)
        else []
      else [] := by
  rw [Intake.agreed_eq]
  unfold Intake.agreedPace Intake.holds
  by_cases h : (k.settled l).state = .playing
  · simp only [h, if_true]
    rw [Intake.settled_of_playing h]
    cases hholding : (k.slot l).holding
    · simp only [Bool.false_eq_true, if_false]
      rfl
    · simp only [if_true]
      rfl
  · simp only [if_neg h]

end

end

/-! ### The reply and the frame -/

theorem State.told_frame {s : State} {i : ScreenIx} {l : Letter} {x y : Slot} :
    ∃ q path, s.told i l x y = { s with queue := q, port := { s.port with path := path } } := by
  unfold State.told
  split
  · exact ⟨s.queue, s.port.path, rfl⟩
  · exact State.postAt_frame

@[simp] theorem State.told_screens {s : State} {i : ScreenIx} {l : Letter} {x y : Slot} :
    (s.told i l x y).screens = s.screens := by
  obtain ⟨_, _, h⟩ := State.told_frame (s := s) (i := i) (l := l) (x := x) (y := y)
  rw [h]

@[simp] theorem State.told_paceOut {s : State} {i : ScreenIx} {l : Letter} {x y : Slot} :
    (s.told i l x y).paceOut = s.paceOut := by
  obtain ⟨_, _, h⟩ := State.told_frame (s := s) (i := i) (l := l) (x := x) (y := y)
  rw [h]

/-- Settles O34: the two agreements, one behind the other. -/
theorem setIntakeAgrees : Obligations.SetIntakeAgrees := by
  intro s q i start low high policy pacing hstart hstart' hlow hlow' hhigh hhigh' command hserved
  obtain ⟨k, hk⟩ : ∃ k : Intake, k =
    { (s.scr i).intake with start := start, low := low, high := high, policy := policy, pacing := pacing } := ⟨_, rfl⟩
  have hslot (l : Letter) : k.slot l = s.slot i l := by rw [hk]; cases l <;> rfl
  have hpolicy : policyOf policy.code = some policy := by cases policy <;> rfl
  have hrule : ruleOf command s.beginService =
      (((s.beginService.put i { s.scr i with intake := (k.setSlot .a (k.agreed .a)).setSlot .b (k.agreed .b) }
        (k.agreedPace .a ++ k.agreedPace .b)).told i .a (s.slot i .a) (k.agreed .a)).told i .b (s.slot i .b) (k.agreed .b),
        0x00 :: u16 start ++ u16 low ++ u16 high ++ [BitVec.ofNat 8 policy.code, BitVec.ofNat 8 (boolCode pacing)]) := by
    simp only [command, ruleOf, setIntakeRule, screenOf_code, hpolicy, onOf_boolCode]
    rw [if_pos ⟨hstart, hstart', hlow, hlow', hhigh, hhigh'⟩, State.modIntake_eq_put, State.agree_agree]
    simp only [State.scr_beginService, ← hk, State.scr_put_same, State.slot_put_same, State.put_put, List.nil_append, hslot,
      flag_eq]
    simp only [answer, u8_eq, Status.code, List.append_assoc, List.cons_append, List.nil_append]
  obtain ⟨base, hbase⟩ : ∃ base, base =
    s.beginService.put i { s.scr i with intake := (k.setSlot .a (k.agreed .a)).setSlot .b (k.agreed .b) }
      (k.agreedPace .a ++ k.agreedPace .b) := ⟨_, rfl⟩
  obtain ⟨u, hu⟩ : ∃ u, u =
    (base.told i .a (s.slot i .a) (k.agreed .a)).told i .b (s.slot i .b) (k.agreed .b) := ⟨_, rfl⟩
  rw [← hbase, ← hu] at hrule
  have hscreens : u.screens = base.screens := by rw [hu, State.told_screens, State.told_screens]
  have hpaceOut : u.paceOut = s.paceOut ++ (k.agreedPace .a ++ k.agreedPace .b) := by
    rw [hu, State.told_paceOut, State.told_paceOut, hbase]
    rfl
  have hscr (j : ScreenIx) : u.scr j =
      if i = j then { s.scr i with intake := (k.setSlot .a (k.agreed .a)).setSlot .b (k.agreed .b) } else s.scr j := by
    rw [State.scr_of_screens hscreens, hbase]
    exact State.scr_put
  have hintake : (u.scr i).intake = (k.setSlot .a (k.agreed .a)).setSlot .b (k.agreed .b) := by rw [hscr, if_pos rfl]
  have hagreed (l : Letter) : u.slot i l = k.agreed l := by
    rw [State.slot, hintake]
    cases l <;> rfl
  have hframe : ∃ q path, u = { base with queue := q, port := { base.port with path := path } } := by
    obtain ⟨q, path, h⟩ := State.told_frame (s := base) (i := i) (l := .a) (x := s.slot i .a) (y := k.agreed .a)
    obtain ⟨q', path', h'⟩ := State.told_frame (s := base.told i .a (s.slot i .a) (k.agreed .a)) (i := i) (l := .b)
      (x := s.slot i .b) (y := k.agreed .b)
    exact ⟨q', path', by rw [hu, h', h]⟩
  have hk' : k.start = start ∧ k.low = low ∧ k.high = high ∧ k.pacing = pacing ∧
      k.selection = (s.scr i).intake.selection := by
    rw [hk]
    exact ⟨rfl, rfl, rfl, rfl, rfl⟩
  obtain ⟨hkstart, hklow, hkhigh, hkpacing, hkselection⟩ := hk'
  refine ⟨_, exec_served_of rfl hserved hrule, ?_⟩
  have hslotReply (f : Frame) (l : Letter) : (u.pushPath f).slot i l = u.slot i l := rfl
  simp only [State.scr_pushPath, hintake, hslotReply, hagreed]
  refine ⟨by rw [hk]; rfl, by rw [hk]; rfl, by rw [hk]; rfl, by rw [hk]; rfl, by rw [hk]; rfl, by rw [hk]; rfl,
    by rw [hk]; rfl, by rw [hk]; rfl, by rw [hk]; rfl, fun l => ?_, fun j hj => ?_, ?_, ?_, ⟨?_, ?_⟩, ?_⟩
  · obtain ⟨hid, hsource, haccepted, -, hexpected⟩ := Intake.settled_rest (k := k) (l := l)
    have hstate := Intake.settled_state (k := k) (l := l)
    rw [Intake.agreed_eq]
    simp only [hslot, hkstart, hklow, hkhigh, hkpacing, hkselection] at hid hsource haccepted hexpected hstate ⊢
    exact ⟨hstate, trivial, hid, hsource, haccepted, hexpected⟩
  · rw [hscr, if_neg (Ne.symm hj)]
  · rw [hscr, if_pos rfl]
  · obtain ⟨q', path, h⟩ := hframe
    rw [h, hbase]
    rfl
  · show u.paceOut = _
    rw [hpaceOut, Intake.agreedPace_eq, Intake.agreedPace_eq]
    simp only [hslot, hkstart, hklow, hkhigh, hkpacing, List.append_assoc]
  · have hsame : ({ s.beginService with screens := u.screens, paceOut := u.paceOut } : State) = base := by
      rw [hscreens, hpaceOut, hbase]
      rfl
    refine congrArg (State.pushPath · _) (hu.trans ?_)
    rw [← hsame]
    rfl
  · exact List.getLast?_concat

end Sys2Proof.Machine
end

section
/-! The placing of a packet by its distance from the expected sequence (sections 1.2 to 1.4). -/

namespace Sys2Proof.Machine

/-! ### The place of a block -/

section
variable {e : Seq} {b : Block} {bs : List Block}

/-- A block goes behind the blocks that are nearer to the expected sequence (R10). -/
theorem insertBlock_eq (hnew : ∀ y ∈ bs, y.seq ≠ b.seq) :
    insertBlock e b bs =
      bs.takeWhile (fun y => decide ((y.seq - e).toNat < (b.seq - e).toNat)) ++
        b :: bs.dropWhile (fun y => decide ((y.seq - e).toNat < (b.seq - e).toNat)) := by
  induction bs with
  | nil => rfl
  | cons c rest ih =>
    have hne : (c.seq - e).toNat ≠ (b.seq - e).toNat := fun h =>
      hnew c List.mem_cons_self (by simpa using BitVec.eq_of_toNat_eq h)
    rw [insertBlock]
    by_cases hbefore : (b.seq - e).toNat < (c.seq - e).toNat
    · rw [if_pos (show seqDistance b.seq e < seqDistance c.seq e from hbefore),
        List.takeWhile_cons_of_neg (by simpa using Nat.le_of_lt hbefore),
        List.dropWhile_cons_of_neg (by simpa using Nat.le_of_lt hbefore)]
      rfl
    · have hafter : (c.seq - e).toNat < (b.seq - e).toNat := by omega
      rw [if_neg (show ¬ seqDistance b.seq e < seqDistance c.seq e from hbefore),
        ih fun y hy => hnew y (List.mem_cons_of_mem c hy),
        List.takeWhile_cons_of_pos (by simpa using hafter), List.dropWhile_cons_of_pos (by simpa using hafter)]
      rfl

theorem insertBlock_perm : (insertBlock e b bs).Perm (b :: bs) := by
  induction bs with
  | nil => exact .refl _
  | cons c rest ih =>
    rw [insertBlock]
    split
    · exact .refl _
    · exact (ih.cons c).trans (.swap b c rest)

end

/-! ### What a packet does -/

section
variable {s : State} {i : ScreenIx} {l : Letter} {b : Block} {source : Mac} {e : Seq}

/-- The states in which a packet is placed by its distance (R10). -/
def SlotState.places (x : SlotState) : Prop := x = .filling ∨ x = .ready ∨ x = .playing ∨ x = .starved

theorem State.arrive_of_places (h : (s.slot i l).state.places) : s.arrive i l b source = s.place i l b := by
  unfold State.arrive
  rcases h with h | h | h | h <;> rw [h]

theorem State.place_late (hexpected : (s.slot i l).expected = some e) (hd : 32768 ≤ (b.seq - e).toNat) :
    s.place i l b = s.modLive i (fun c => { c with late := bumped c.late }) := by
  simp only [State.place, Slot.next, hexpected, Option.getD_some, seqDistance, if_pos hd]

theorem State.place_duplicate (hexpected : (s.slot i l).expected = some e) (hd : (b.seq - e).toNat < 64)
    (hthere : ∃ y ∈ (s.slot i l).buffer, y.seq = b.seq) :
    s.place i l b = s.modLive i (fun c => { c with late := bumped c.late, duplicate := bumped c.duplicate }) := by
  have hany : (s.slot i l).buffer.any (fun c => decide (c.seq = b.seq)) = true := by simpa using hthere
  simp only [State.place, Slot.next, hexpected, Option.getD_some, seqDistance, if_neg (Nat.not_le.mpr hd),
    if_neg (show ¬ 32768 ≤ (b.seq - e).toNat by omega), hany, if_true]

theorem State.place_new (hexpected : (s.slot i l).expected = some e) (hd : (b.seq - e).toNat < 64)
    (hnew : ∀ y ∈ (s.slot i l).buffer, y.seq ≠ b.seq) : s.place i l b = s.insert i l b := by
  have hany : (s.slot i l).buffer.any (fun c => decide (c.seq = b.seq)) = false := by simpa using hnew
  simp only [State.place, Slot.next, hexpected, Option.getD_some, seqDistance, if_neg (Nat.not_le.mpr hd),
    if_neg (show ¬ 32768 ≤ (b.seq - e).toNat by omega), hany, Bool.false_eq_true, if_false]

theorem State.place_far (hexpected : (s.slot i l).expected = some e) (hd : 64 ≤ (b.seq - e).toNat)
    (hd' : (b.seq - e).toNat < 32768) : s.place i l b = s.resync i l b := by
  simp only [State.place, Slot.next, hexpected, Option.getD_some, seqDistance, if_neg (Nat.not_le.mpr hd'), if_pos hd]

/-- A slot with a block more keeps its blocks, but for those a slot that is READY slides past (R13). -/
theorem Intake.reexamined_buffer {k : Intake} {x : Slot} (hstate : x.state.places) :
    ∃ gone, gone ++ (k.reexamined x l).buffer = x.buffer ∧
      (gone = [] ∨ (k.reexamined x l).state = .ready ∧ (k.reexamined x l).buffer.length = k.start) := by
  have hslid : ∃ gone, gone ++ (x.readied k.start).buffer = x.buffer ∧
      (gone = [] ∨ (x.readied k.start).state = .ready ∧ (x.readied k.start).buffer.length = k.start) := by
    rw [Slot.readied_eq]
    refine ⟨x.buffer.take (x.buffer.length - k.start), List.take_append_drop _ _, ?_⟩
    by_cases hstart : x.buffer.length ≤ k.start
    · exact .inl (by rw [Nat.sub_eq_zero_of_le hstart]; rfl)
    · exact .inr ⟨rfl, by rw [List.length_drop]; omega⟩
  unfold Intake.reexamined
  rcases hstate with h | h | h | h <;> simp only [h]
  · split
    · exact hslid
    · exact ⟨[], rfl, .inl rfl⟩
  · have hsame : Slot.slide k.start x = x.readied k.start := by
      rw [Slot.readied, ← h, ← Slot.slide_state (start := k.start)]
    rw [hsame]
    exact hslid
  · exact ⟨[], rfl, .inl rfl⟩
  · split
    · split
      · exact ⟨[], rfl, .inl rfl⟩
      · exact hslid
    · exact ⟨[], rfl, .inl rfl⟩

/-- What re-examination leaves of a slot. -/
theorem Intake.reexamined_rest {k : Intake} {x : Slot} :
    (k.reexamined x l).lastAccepted = x.lastAccepted ∧ (k.reexamined x l).streamId = x.streamId ∧
      (k.reexamined x l).source = x.source := by
  have hslide : (Slot.slide k.start x).lastAccepted = x.lastAccepted ∧ (Slot.slide k.start x).streamId = x.streamId ∧
      (Slot.slide k.start x).source = x.source := by
    rw [Slot.slide_eq]
    exact ⟨rfl, rfl, rfl⟩
  unfold Intake.reexamined
  cases x.state <;> dsimp only
  case filling =>
    split
    · exact hslide
    · exact ⟨rfl, rfl, rfl⟩
  case ready => exact hslide
  case starved =>
    split
    · split
      · exact ⟨rfl, rfl, rfl⟩
      · exact hslide
    · exact ⟨rfl, rfl, rfl⟩
  all_goals exact ⟨rfl, rfl, rfl⟩

end

/-- Settles O36: late, duplicate, in the window and far ahead. -/
theorem packetPlacedByDistance : Obligations.PacketPlacedByDistance := by
  refine ⟨fun s i l b source e => ?_, fun s i l b source e => ?_⟩
  · intro x d live hexpected hstate
    have harrive : s.arrive i l b source = s.place i l b := State.arrive_of_places hstate
    refine ⟨fun hd => ?_, fun hd hthere => ?_, fun hd hnew => ?_, fun hd hd' => ?_⟩
    · rw [harrive, State.place_late hexpected hd]
      rfl
    · rw [harrive, State.place_duplicate hexpected hd hthere]
      rfl
    · rw [harrive, State.place_new hexpected hd hnew, State.insert_eq]
      dsimp only
      rw [State.slot_told, State.slot_put_same, Intake.slot_setSlot_same, State.scr_told, State.scr_put_same]
      obtain ⟨haccepted, hid, hsource⟩ := Intake.reexamined_rest (k := (s.scr i).intake) (x := x.heard b s.time) (l := l)
      obtain ⟨gone, hgone, hready⟩ := Intake.reexamined_buffer (k := (s.scr i).intake) (x := x.heard b s.time) (l := l) hstate
      exact ⟨haccepted, hid, hsource, rfl, gone, hgone ▸ insertBlock_perm, hready⟩
    · rw [harrive, State.place_far hexpected hd hd', State.resync_eq]
      dsimp only
      rw [State.slot_told, State.slot_put_same, Intake.slot_setSlot_same, State.told_paceOut, State.scr_told, State.scr_put_same]
      exact ⟨rfl, rfl, rfl⟩
  · intro k x d live up arrived hexpected hstate
    have harrive : s.arrive i l b source = s.place i l b := State.arrive_of_places hstate
    refine ⟨fun hd hnew => ?_, fun hd hd' => ?_⟩
    · rw [harrive, State.place_new hexpected hd hnew, State.insert_eq]
      intro placed fill heard slid full
      have hbuffer : insertBlock x.next b x.buffer = placed := by
        have hnext : x.next = e := by rw [Slot.next, hexpected, Option.getD_some]
        rw [hnext, insertBlock_eq hnew]
      have hfill : placed.length = fill := hbuffer ▸ insertBlock_perm.length_eq
      have hheard : x.heard b s.time = heard := by rw [Slot.heard, hbuffer]
      have hslid : heard.readied k.start = slid := by
        rw [Slot.readied_eq]
        simp only [heard, slid, hfill, hexpected] <;> rfl
      have hslide (h : x.state = .ready) : Slot.slide k.start heard = slid := by
        rw [← hslid, Slot.readied, ← h, ← Slot.slide_state (start := k.start) (x := heard)]
      have hslot : k.reexamined heard l =
          match x.state with
          | .filling => if k.start ≤ fill then slid else heard
          | .starved =>
            if k.start ≤ fill then if k.selection = l then { heard with state := .playing } else slid else heard
          | .ready => slid
          | _ => { heard with holding := x.holding || full } := by
        have hlength : heard.buffer.length = fill := hfill
        have hfrom : heard.state = x.state := rfl
        unfold Intake.reexamined
        rw [hfrom, hlength, hslid]
        rcases hstate with h | h | h | h
        · simp only [h]
        · simp only [h, hslide h]
        · simp only [h]
          rfl
        · simp only [h]
      have hpace : k.reexaminedPace heard =
          if x.state = .playing ∧ x.holding = false ∧ full = true then x.paceHold (fill - k.start) else [] := by
        have hlength : heard.buffer.length = fill := hfill
        unfold Intake.reexaminedPace
        rw [hlength]
        rfl
      dsimp only
      rw [hheard]
      exact congr (congrArg (arrived · { live with packetsAccepted := up live.packetsAccepted } ·) hslot) hpace
    · rw [harrive, State.place_far hexpected hd hd', State.resync_eq]
      rfl

end Sys2Proof.Machine
end

section

/-! # The program port: the reading of a packet and where it goes (O35) -/

namespace Sys2Proof.Machine

section

variable {s : State} {i : ScreenIx} {l : Letter}

/-! ### The payload of a packet (R2, section 11.4) -/

theorem beNat_eq_foldl {bytes : List Byte} : beNat bytes = bytes.foldl (fun v b => 256 * v + b.toNat) 0 := by
  simp only [beNat, Nat.mul_comm]

/-- The sample that stands at an offset of a payload. -/
def sampleAt (payload : List Byte) (k : Nat) : Int := signedOf 24 (beNat ((payload.drop k).take 3))

theorem sampleAt_drop {payload : List Byte} {k j : Nat} : sampleAt (payload.drop k) j = sampleAt payload (k + j) := by
  rw [sampleAt, sampleAt, List.drop_drop]

theorem sampleAt_take {payload : List Byte} {n j : Nat} (h : j + 3 ≤ n) :
    sampleAt (payload.take n) j = sampleAt payload j := by
  rw [sampleAt, sampleAt, List.drop_take, List.take_take, Nat.min_eq_left (by omega)]

theorem samplesOf_eq {n : Nat} {bytes : List Byte} (h : bytes.length = 3 * n) :
    samplesOf bytes = (List.range n).map (fun j => sampleAt bytes (3 * j)) := by
  induction n generalizing bytes with
  | zero =>
    obtain rfl : bytes = [] := List.length_eq_zero_iff.mp h
    rfl
  | succ n ih =>
    obtain _ | ⟨a, _ | ⟨b, _ | ⟨c, rest⟩⟩⟩ := bytes
    all_goals simp only [List.length_cons, List.length_nil] at h
    case nil | cons.nil | cons.cons.nil => omega
    have hrest : rest.length = 3 * n := by omega
    rw [samplesOf, ih hrest, List.range_succ_eq_map, List.map_cons, List.map_map]
    exact congrArg (List.cons _) (List.map_congr_left fun j _ => rfl)

theorem channelsBelow_succ {mask : Byte} {k : Nat} (h : mask.getLsbD k = true) :
    channelsBelow mask (k + 1) = channelsBelow mask k + 1 := by
  rw [channelsBelow, List.range_succ, List.filter_append, List.length_append, List.filter_cons_of_pos h]
  rfl

theorem channelsBelow_le {mask : Byte} {j k : Nat} (h : j ≤ k) : channelsBelow mask j ≤ channelsBelow mask k :=
  ((List.range_sublist.mpr h).filter _).length_le

theorem maskCount_eq {mask : Byte} : maskCount mask = channelsBelow mask 8 := rfl

/-- A channel's section of a payload as long as its mask says holds its 48 samples. -/
theorem samplesOf_section {mask : Byte} {body : List Byte} {k : Nat} (hlen : body.length = 144 * maskCount mask)
    (hk : k < 8) (hmask : mask.getLsbD k = true) :
    samplesOf ((body.drop (144 * channelsBelow mask k)).take 144) =
      (List.range 48).map (fun n => sampleAt body (144 * channelsBelow mask k + 3 * n)) := by
  have hbelow : channelsBelow mask k + 1 ≤ maskCount mask := by
    rw [maskCount_eq, ← channelsBelow_succ hmask]
    exact channelsBelow_le hk
  have hsection : ((body.drop (144 * channelsBelow mask k)).take 144).length = 3 * 48 := by
    rw [List.length_take, List.length_drop]
    omega
  rw [samplesOf_eq hsection]
  refine List.map_congr_left fun n hn => ?_
  have := List.mem_range.mp hn
  rw [sampleAt_take (by omega), sampleAt_drop]

theorem length_of_packetOf {payload : List Byte} (h : payload.length < 12) : packetOf payload = none := by
  unfold packetOf
  split
  · simp only [List.length_cons] at h
    omega
  · rfl

theorem header_of_length {payload : List Byte} (h : 12 ≤ payload.length) :
    ∃ i0 i1 i2 i3 q0 q1 p0 p1 p2 p3 f m body,
      payload = i0 :: i1 :: i2 :: i3 :: q0 :: q1 :: p0 :: p1 :: p2 :: p3 :: f :: m :: body := by
  match payload, h with
  | i0 :: i1 :: i2 :: i3 :: q0 :: q1 :: p0 :: p1 :: p2 :: p3 :: f :: m :: body, _ =>
    exact ⟨i0, i1, i2, i3, q0, q1, p0, p1, p2, p3, f, m, body, rfl⟩

theorem formatOf_eq_none {n : Nat} (h : 5 ≤ n) : formatOf n = none := by
  rw [formatOf_eq, if_neg (by omega), if_neg (by omega), if_neg (by omega), if_neg (by omega), if_neg (by omega)]

theorem formatOf_of_lt {n : Nat} (h : n < 5) :
    formatOf n =
      some (if n = 0 then .mono else if n = 1 then .stereo else if n = 2 then .matrix
        else if n = 3 then .discrete6 else .discrete8) := by
  match n with
  | 0 | 1 | 2 | 3 | 4 => rfl

/-! ### Where a packet goes (R3, R4, R9) -/

theorem State.holder_eq_some {id : StreamId} (h : (s.slot i l).streamId = some id)
    (honly : ∀ j m, (s.slot j m).streamId = some id → j = i ∧ m = l) : s.holder id = some (i, l) := by
  match hholder : s.holder id with
  | none => exact absurd h (State.holder_eq_none.mp hholder i l)
  | some (j, m) =>
    obtain ⟨rfl, rfl⟩ := honly j m (State.streamId_of_holder hholder)
    rfl

theorem State.noteSeen_eq {id : StreamId} {source : Mac} {format : Format} :
    s.noteSeen id source format =
      let entry : SeenEntry := { streamId := id, source := source, format := format }
      if id ∈ s.seen.map SeenEntry.streamId then
        { s with seen := entry :: s.seen.filter (fun e => e.streamId ≠ id) }
      else ({ s with seen := entry :: s.seen.take 7 }).postAt .streamSeen none none (u32 id.toNat) := by
  have hany : s.seen.any (fun e => decide (e.streamId = id)) = decide (id ∈ s.seen.map SeenEntry.streamId) := by
    rw [Bool.eq_iff_iff]
    simp [List.any_eq_true]
  rw [State.noteSeen, hany]
  simp only [decide_eq_true_eq]

theorem State.programFrame_of_mine {dest source : Mac} {etherType : BitVec 16} {payload : List Byte}
    (h : (dest = Config.stationAddress ∨ dest = 0xFFFFFFFFFFFF) ∧ etherType = 0x88B5) :
    s.programFrame dest etherType source payload =
      match packetOf payload with
      | none => s.modPartLive (fun c => { c with packetsMalformed := bumped c.packetsMalformed })
      | some (id, b) =>
        match s.holder id with
        | some (i, l) => s.arrive i l b source
        | none =>
          let s := s.modPartLive (fun c => { c with packetsUnmatched := bumped c.packetsUnmatched })
          if s.discovery then s.noteSeen id source b.format else s :=
  if_pos ⟨h.1.symm, h.2⟩

theorem State.programFrame_of_not_mine {dest source : Mac} {etherType : BitVec 16} {payload : List Byte}
    (h : ¬ ((dest = Config.stationAddress ∨ dest = 0xFFFFFFFFFFFF) ∧ etherType = 0x88B5)) :
    s.programFrame dest etherType source payload = s :=
  if_neg fun hm => h ⟨hm.1.symm, hm.2⟩

theorem State.arrive_of_begins {b : Block} {source : Mac}
    (h : (s.slot i l).state = .waiting ∨ (s.slot i l).state = .lost) :
    s.arrive i l b source = s.beginFill i l b source := by
  unfold State.arrive
  rcases h with h | h <;> rw [h]

theorem State.beginFill_of_begins {b : Block} {source : Mac} {id : StreamId} (hid : (s.slot i l).streamId = some id)
    (h : (s.slot i l).state = .waiting ∨ (s.slot i l).state = .lost) :
    s.beginFill i l b source =
      let x : Slot :=
        { s.slot i l with
          state := .filling, source := some source, lastAccepted := some s.time, expected := some b.seq, buffer := [b] }
      let live := (s.scr i).live
      let c : Screen :=
        { s.scr i with
          intake := (s.scr i).intake.setSlot l x,
          live := { live with packetsAccepted := min (live.packetsAccepted + 1) 4294967295 } }
      ({ s with screens := s.screens.set i c }).post .streamState i
        ([BitVec.ofNat 8 l.code] ++ u32 id.toNat ++ [BitVec.ofNat 8 (s.slot i l).state.code, 0x02, 0x00, 0x01]) := by
  have hstate : (s.slot i l).state ≠ .filling := by rcases h with h | h <;> rw [h] <;> decide
  rw [State.beginFill_eq]
  dsimp only
  rw [State.told, if_neg hstate, hid, State.put_nil]
  exact congrArg (State.post _ _ _) (by simp [SlotState.code, u16, beBytes])

end

/-- Settles O35: ignored, malformed, unmatched, first of a fill, or placed; and the layout of a packet. -/
theorem packetAtTheProgramPort : Obligations.PacketAtTheProgramPort := by
  refine ⟨fun s dest etherType source payload => ?_, fun payload => ?_⟩
  · intro command mine
    have hexec : exec command s = .next (s.programFrame dest etherType source payload) := rfl
    rw [hexec]
    refine ⟨fun h => ?_, fun h hnone => ?_, fun h id b hsome hfree => ?_, fun h id b i l hsome hid honly hbegins => ?_,
      fun h id b i l hsome hid honly => ?_⟩
    · rw [State.programFrame_of_not_mine h]
    · rw [State.programFrame_of_mine h, hnone]
      rfl
    · have hholder : s.holder id = none := State.holder_eq_none.mpr hfree
      rw [State.programFrame_of_mine h, hsome]
      dsimp only
      rw [hholder]
      dsimp only
      rw [State.noteSeen_eq]
      refine congrArg Host.Outcome.next ?_
      by_cases hdiscovery : s.discovery = true
      · exact (if_pos hdiscovery).trans (if_neg (by rw [hdiscovery]; decide)).symm
      · exact (if_neg hdiscovery).trans (if_pos (Bool.not_eq_true _ ▸ hdiscovery)).symm
    · rw [State.programFrame_of_mine h, hsome]
      dsimp only
      rw [State.holder_eq_some hid honly]
      dsimp only
      rw [State.arrive_of_begins hbegins, State.beginFill_of_begins hid hbegins]
    · rw [State.programFrame_of_mine h, hsome]
      dsimp only
      rw [State.holder_eq_some hid honly]
  · intro byteAt number mask below malformed sample
    rcases Nat.lt_or_ge payload.length 12 with hshort | hlong
    · have hmal : malformed := .inl (by omega)
      rw [length_of_packetOf hshort, if_pos hmal]
    · obtain ⟨i0, i1, i2, i3, q0, q1, p0, p1, p2, p3, f, m, body, rfl⟩ := header_of_length hlong
      have hlength : (i0 :: i1 :: i2 :: i3 :: q0 :: q1 :: p0 :: p1 :: p2 :: p3 :: f :: m :: body).length =
          12 + body.length := by simp only [List.length_cons]; omega
      have hid : n32 i0 i1 i2 i3 = number 0 4 := beNat_eq_foldl
      have hseq : n16 q0 q1 = number 4 2 := beNat_eq_foldl
      have hposition : n32 p0 p1 p2 p3 = number 6 4 := beNat_eq_foldl
      have hsample (j : Nat) : sampleAt body j = sample (12 + j) := by
        have hdrop : (i0 :: i1 :: i2 :: i3 :: q0 :: q1 :: p0 :: p1 :: p2 :: p3 :: f :: m :: body).drop (12 + j) =
            body.drop j := by rw [← List.drop_drop]; rfl
        change _ = signedOf 24 (number (12 + j) 3)
        rw [sampleAt, beNat_eq_foldl, ← hdrop]
      unfold packetOf
      dsimp only
      rw [hid, hseq, hposition]
      by_cases hbad : body.length ≠ 144 * maskCount m ∨ m = 0 ∨ number 0 4 = 0
      · have hmal : malformed := by
          rcases hbad with h | h | h
          · exact .inl fun he => h (by change _ = 144 * below 8; omega)
          · exact .inr (.inr (.inl h))
          · exact .inr (.inr (.inr h))
        rw [if_pos hbad, if_pos hmal]
      · rw [if_neg hbad]
        obtain ⟨hbody, hm, hne⟩ : body.length = 144 * maskCount m ∧ m ≠ 0 ∧ number 0 4 ≠ 0 := by
          simpa only [not_or, ne_eq, Classical.not_not] using hbad
        have hmal : malformed ↔ 5 ≤ byteAt 10 % 16 := by
          refine ⟨fun h => ?_, fun h => .inr (.inl h)⟩
          rcases h with h | h | h | h
          · exact absurd (hlength.trans (congrArg (12 + ·) hbody)) h
          · exact h
          · exact absurd h hm
          · exact absurd h hne
        by_cases h5 : 5 ≤ byteAt 10 % 16
        · rw [if_pos (hmal.mpr h5)]
          have hnone : formatOf (f.toNat % 16) = none := formatOf_eq_none h5
          rw [hnone]
        · rw [if_neg (mt hmal.mp h5)]
          have hsome := formatOf_of_lt (Nat.lt_of_not_le h5)
          change (match formatOf (byteAt 10 % 16) with | none => none | some format => _) = _
          rw [hsome]
          dsimp only
          congr 4
          funext k
          by_cases hk : m.getLsbD k = true
          · refine (if_pos hk).trans (Eq.trans ?_ (if_pos hk).symm)
            rw [samplesOf_section hbody k.isLt hk]
            refine List.map_congr_left fun n _ => ?_
            rw [hsample, Nat.add_assoc]
            rfl
          · exact (if_neg hk).trans (if_neg hk).symm

end Sys2Proof.Machine
end

section

/-! # HELLO and QUERY (O16) -/

namespace Sys2Proof.Machine

section

variable {s : State} {i : ScreenIx}

/-! ### The fields of each block in the reply to QUERY (R197) -/

theorem busList_eq {f : Bus → List Byte} : busList f = 0x08 :: (List.finRange 8).flatMap f := by
  rw [busList, listField_eq_flatMap, List.length_finRange]
  rfl

theorem Slot.fields_eq {x : Slot} :
    x.fields =
      BitVec.ofNat 8 x.state.code :: u16 x.buffer.length ++ u32 (x.streamId.getD 0xFFFFFFFF).toNat ++
        u16 (x.expected.getD 0xFFFF).toNat ++ beBytes 6 (x.source.getD 0xFFFFFFFFFFFF).toNat := rfl

theorem Intake.fields_eq {k : Intake} :
    k.fields =
      k.slotA.fields ++ k.slotB.fields ++ [BitVec.ofNat 8 k.selection.code, BitVec.ofNat 8 k.staged.code] := by
  simp only [Intake.fields, u8_eq, List.append_assoc, List.cons_append, List.nil_append]

theorem Decoder.fields_eq {d : Decoder} :
    d.fields =
      [d.mask, BitVec.ofNat 8 d.topology.code] ++ u16 d.delay ++
        [BitVec.ofNat 8 (match d.forced with | none => 0xFE | some f => f.code),
          BitVec.ofNat 8 (match d.inForce with | none => 0xFF | some f => f.code)] ++ s16 d.centre ++ s16 d.surround := by
  simp only [Decoder.fields, layoutFields, u8_eq, List.append_assoc, List.cons_append, List.nil_append]
  rfl

theorem targetField_eq {t : Target} : targetField t = u16 (match t with | none => 0 | some p => p.val + 1) := by
  cases t <;> rfl

theorem optTargetField_eq {t : Option Target} :
    optTargetField t =
      (match t with | none => [0xFF, 0xFF] | some t => u16 (match t with | none => 0 | some p => p.val + 1)) := by
  match t with
  | none => rfl
  | some t => exact targetField_eq

theorem phaseCode_byte {p : Option CutPhase} :
    BitVec.ofNat 8 (phaseCode p) = (match p with | none => 0xFF | some .fadeOut => 0 | some .fadeIn => 1 : Byte) := by
  match p with
  | none | some .fadeOut | some .fadeIn => rfl

theorem State.equaliserFields_eq :
    s.equaliserFields i =
      let e := (s.scr i).equaliser
      let preset (t : Target) : List Byte := u16 (match t with | none => 0 | some p => p.val + 1)
      let optional (t : Option Target) : List Byte := match t with | none => [0xFF, 0xFF] | some t => preset t
      preset e.active ++ optional e.incoming ++ optional e.waiting ++
        [BitVec.ofNat 8 e.switch.code, match e.phase with | none => 0xFF | some .fadeOut => 0 | some .fadeIn => 1] ++
        u16 e.count ++ u16 (s.bandsHeld i) ++ u16 s.bandsFree ++
        0x08 :: (List.finRange 8).flatMap (fun b => s16 (s.offsetInForce i b)) := by
  simp only [State.equaliserFields, targetField_eq, optTargetField_eq, u8_eq, phaseCode_byte, busList_eq, List.append_assoc,
    List.cons_append, List.nil_append] <;> rfl

theorem Gain.fields_eq {g : Gain} :
    g.fields =
      let buses (f : Bus → List Byte) : List Byte := 0x08 :: (List.finRange 8).flatMap f
      BitVec.ofNat 8 g.faderPosition :: s16 g.fader.target ++ s16 g.fader.current ++ [BitVec.ofNat 8 g.limit] ++
        buses (fun b => s16 g.trims[b]) ++ buses (fun b => s16 g.offsets[b].current ++ s16 g.offsets[b].target) ++
        buses (fun b => s16 g.mutes[b].target ++ s16 g.mutes[b].current) ++ s16 g.switchTerm.current ++
        s16 g.switchTerm.target := by
  simp only [Gain.fields, busList_eq, u8_eq]
  rfl

theorem Meters.fields_eq {m : Meters} :
    m.fields =
      let buses (f : Bus → List Byte) : List Byte := 0x08 :: (List.finRange 8).flatMap f
      s16 m.totalLevel ++ s16 (m.totalLevel + m.calibration) ++ u16 m.totalIntervals ++
        buses (fun b => s16 m.busLevels[b] ++ s16 (m.busLevels[b] + m.calibration)) ++
        buses (fun b => u16 m.clipCounts[b]) ++ u16 m.window ++ s16 m.calibration := by
  simp only [Meters.fields, busList_eq, Meters.spl]

theorem AlarmId.all_eq :
    AlarmId.all =
      .overLevel :: ((List.finRange 8).map AlarmId.clip ++ (List.finRange 8).map AlarmId.silence ++ [.stream]) := rfl

theorem Alarms.fields_eq {a : Alarms} :
    a.fields =
      let alarm (x : Alarm) : List Byte := [BitVec.ofNat 8 x.state.code, BitVec.ofNat 8 (boolCode x.acknowledged)]
      18 :: alarm a.overLevel ++ (List.finRange 8).flatMap (fun b => alarm a.clip[b]) ++
        (List.finRange 8).flatMap (fun b => alarm a.silence[b]) ++ alarm a.stream := by
  rw [Alarms.fields, listField_eq_flatMap]
  refine congrArg (List.cons _) ?_
  simp only [AlarmId.all_eq, List.flatMap_cons, List.flatMap_append, List.flatMap_map, List.flatMap_nil, flag_eq, u8_eq,
    List.append_nil, List.append_assoc]
  rfl

theorem GuardBlock.fields_eq {g : GuardBlock} :
    g.fields =
      s16 g.value ++ [BitVec.ofNat 8 g.direction.code, BitVec.ofNat 8 (boolCode g.enabled), BitVec.ofNat 8 g.step] ++
        u32 g.interval ++ s16 g.floor ++ u32 g.release := by
  simp only [GuardBlock.fields, GuardBlock.settingsFields, u8_eq, flag_eq, List.append_assoc, List.cons_append,
    List.nil_append]

theorem Trigger.fields_eq {t : Trigger} :
    t.fields = [BitVec.ofNat 8 (match t.line with | none => 0 | some l => l.val + 1), BitVec.ofNat 8 t.edge.code] := by
  obtain ⟨line, edge⟩ := t
  cases line <;> rfl

theorem Clock.fields_eq {k : Clock} :
    k.fields =
      let trigger (t : Trigger) : List Byte :=
        [BitVec.ofNat 8 (match t.line with | none => 0 | some l => l.val + 1), BitVec.ofNat 8 t.edge.code]
      BitVec.ofNat 8 k.state.code :: u32 k.position ++ [BitVec.ofNat 8 k.mode.code] ++ u32 k.length ++
        [BitVec.ofNat 8 k.endMode.code] ++ u32 k.passWindow ++ u32 k.flywheelLimit ++ u16 k.flywheelCount ++
        trigger k.startTrigger ++ trigger k.stopTrigger ++ trigger k.reloadTrigger ++ u32 k.reloadPosition := by
  simp only [Clock.fields, Trigger.fields_eq, u8_eq]
  rfl

theorem immediate_flag {x : Immediate} : flag (decide (x ≠ .empty)) = [if x = .empty then 0 else 1] := by
  by_cases h : x = .empty
  · rw [if_pos h, h]
    rfl
  · rw [if_neg h, flag_eq, decide_eq_true h]
    rfl

theorem State.lineFields_eq :
    s.lineFields =
      20 :: (List.finRange 20).flatMap
        (fun l => [BitVec.ofNat 8 (boolCode (s.lineLevel l)), BitVec.ofNat 8 (boolCode (s.line l).pulse.isSome)]) := by
  simp only [State.lineFields, listField_eq_flatMap, flag_eq, List.length_finRange, List.cons_append, List.nil_append]
  rfl

end

/-- Settles O16: the fields of HELLO are one text; those of QUERY are the blocks' fields, each by its equation. -/
theorem helloAndQueryOnlyRead : Obligations.HelloAndQueryOnlyRead := by
  refine ⟨fun s q hserved => exec_served_of rfl hserved ?_, fun s q i hserved => exec_served_of rfl hserved ?_⟩
  · rfl
  · rw [ruleOf, queryRule, screenOf_code]
    refine congrArg (s.beginService, 0x00 :: ·) ?_
    rw [State.queryFields, Intake.fields_eq, Slot.fields_eq, Slot.fields_eq, Decoder.fields_eq, State.equaliserFields_eq,
      Gain.fields_eq, Meters.fields_eq, Alarms.fields_eq, GuardBlock.fields_eq, Clock.fields_eq, State.lineFields_eq,
      immediate_flag]
    rfl

end Sys2Proof.Machine
end

section

/-! # The take (O50)

Each way a take can go is one equation: the blocks of the screen written once, its pace message, and its records behind
that. -/

namespace Sys2Proof.Machine

section

variable {s : State} {i : ScreenIx} {l : Letter} {k : Intake} {x : Slot}

/-! ### What conceals (R20) -/

/-- The concealed block a take yields. -/
theorem Intake.concealed_eq :
    k.concealed =
      match k.lastTaken with
      | none => { real := false, position := none, format := none, mask := 0, channels := Vector.replicate 8 [] }
      | some b =>
        { real := false, position := none, format := some b.format, mask := b.mask,
          channels := b.channels.map (fun c =>
            if k.followingReal = true ∧ k.policy ≠ .silence then c.mapIdx (fun n v => v * (47 - (n : Int)) / 48)
            else c.map (fun _ => 0)) } := by
  unfold Intake.concealed
  by_cases h : k.followingReal = true ∧ k.policy ≠ .silence
  · rw [if_pos (by simpa using h)]
    simp only [if_pos h]
    rfl
  · rw [if_neg (by simpa using h)]
    simp only [if_neg h]
    rfl

theorem Intake.concealed_of_last {b : Block} (h : k.lastTaken = some b) :
    k.concealed =
      { real := false, position := none, format := some b.format, mask := b.mask,
        channels := b.channels.map (fun c =>
          if k.followingReal = true ∧ k.policy ≠ .silence then c.mapIdx (fun n v => v * (47 - (n : Int)) / 48)
          else c.map (fun _ => 0)) } := by
  rw [Intake.concealed_eq, h]

@[simp] theorem Intake.concealed_setSlot {y : Slot} : (k.setSlot l y).concealed = k.concealed := by
  cases l <;> rfl

theorem State.conceal_eq :
    s.conceal i =
      (s.put i
        { s.scr i with
          intake := { (s.scr i).intake with followingReal := false },
          live := { (s.scr i).live with blocksConcealed := bumped (s.scr i).live.blocksConcealed } } [],
        (s.scr i).intake.concealed) := by
  simp only [State.conceal, State.modIntake_eq_put, State.modLive_eq_put, State.put_put, State.scr_put_same, List.append_nil]

/-! ### The failover and the starved slot (R21, R22) -/

theorem State.supply_of_failover {b : Block} {rest : List Block} (hdue : (s.scr i).intake.failoverDue = true)
    (hb : (s.scr i).intake.slotB.buffer = b :: rest) : s.supply i = s.failover i b := by
  unfold State.supply
  dsimp only
  rw [hdue, hb]

theorem State.supply_of_not_failover
    (h : ¬ ((s.scr i).intake.failoverDue = true ∧ (s.scr i).intake.slotB.buffer ≠ [])) :
    s.supply i = (s.starvedAdvance i (s.scr i).intake.selection).conceal i := by
  unfold State.supply
  dsimp only
  split
  next hdue hb => exact absurd ⟨hdue, by rw [hb]; exact List.cons_ne_nil _ _⟩ h
  next => rfl

/-- What a STARVED slot's advance leaves of it. -/
def Slot.advanced (x : Slot) : Slot :=
  match x.buffer with
  | b :: rest =>
    if b.seq = x.next then { x with expected := some (x.next + 1), buffer := rest }
    else { x with expected := some (x.next + 1) }
  | [] => { x with expected := some (x.next + 1) }

/-- The counts of that advance. -/
def Slot.advancedCounts (x : Slot) (live : Counters) : Counters :=
  match x.buffer with
  | b :: _ => if b.seq = x.next then { live with late := bumped live.late } else live
  | [] => live

theorem Slot.advanced_of_empty (h : x.buffer = []) : x.advanced = { x with expected := some (x.next + 1) } := by
  rw [Slot.advanced, h]

theorem Slot.advancedCounts_of_empty {live : Counters} (h : x.buffer = []) : x.advancedCounts live = live := by
  rw [Slot.advancedCounts, h]

theorem Slot.advanced_of_due {b : Block} {rest : List Block} (h : x.buffer = b :: rest) (hseq : b.seq = x.next) :
    x.advanced = { x with expected := some (x.next + 1), buffer := rest } := by
  rw [Slot.advanced, h]
  exact if_pos hseq

theorem Slot.advanced_of_gap {b : Block} {rest : List Block} (h : x.buffer = b :: rest) (hseq : b.seq ≠ x.next) :
    x.advanced = { x with expected := some (x.next + 1) } := by
  rw [Slot.advanced, h]
  exact if_neg hseq

theorem Slot.advancedCounts_of_due {live : Counters} {b : Block} {rest : List Block} (h : x.buffer = b :: rest)
    (hseq : b.seq = x.next) : x.advancedCounts live = { live with late := bumped live.late } := by
  rw [Slot.advancedCounts, h]
  exact if_pos hseq

theorem Slot.advancedCounts_of_gap {live : Counters} {b : Block} {rest : List Block} (h : x.buffer = b :: rest)
    (hseq : b.seq ≠ x.next) : x.advancedCounts live = live := by
  rw [Slot.advancedCounts, h]
  exact if_neg hseq

theorem State.starvedAdvance_of_starved (h : (s.slot i l).state = .starved) :
    s.starvedAdvance i l =
      s.put i
        { s.scr i with
          intake := (s.scr i).intake.setSlot l (s.slot i l).advanced,
          live := (s.slot i l).advancedCounts (s.scr i).live } [] := by
  unfold State.starvedAdvance Slot.advanced Slot.advancedCounts
  dsimp only
  rw [if_pos h]
  cases hbuffer : (s.slot i l).buffer with
  | nil =>
    dsimp only
    rw [State.modSlot_eq_put, hbuffer]
  | cons b rest =>
    dsimp only
    split
    · simp only [State.modSlot_eq_put, State.modLive_eq_put, State.scr_put_same, State.put_put, List.append_nil]
    · rw [State.modSlot_eq_put, hbuffer]

theorem State.starvedAdvance_of_not_starved (h : (s.slot i l).state ≠ .starved) : s.starvedAdvance i l = s := by
  simp only [State.starvedAdvance, if_neg h]

/-- Nothing is played and there is no failover: the slot stands, or advances when it is STARVED, and the block is
concealed. -/
theorem State.supply_of_starved (hstate : (s.slot i (s.scr i).intake.selection).state = .starved)
    (h : ¬ ((s.scr i).intake.failoverDue = true ∧ (s.scr i).intake.slotB.buffer ≠ [])) :
    s.supply i =
      let k := (s.scr i).intake
      let x := s.slot i k.selection
      let live := x.advancedCounts (s.scr i).live
      (s.put i
        { s.scr i with
          intake := { k.setSlot k.selection x.advanced with followingReal := false },
          live := { live with blocksConcealed := bumped live.blocksConcealed } } [],
        k.concealed) := by
  rw [State.supply_of_not_failover h, State.starvedAdvance_of_starved hstate, State.conceal_eq]
  simp only [State.put_put, State.scr_put_same, List.append_nil, Intake.concealed_setSlot]

/-! ### The take of a settled selection (R18, R19) -/

theorem State.take_of_playing (hstaged : (s.scr i).intake.staged = (s.scr i).intake.selection)
    (hstate : (s.slot i (s.scr i).intake.selection).state = .playing) :
    s.take i = s.takePlaying i (s.scr i).intake.selection := by
  have hstand : (s.applyStaged i).promoteNamed i = s := by
    simp only [State.applyStaged, if_pos hstaged, State.promoteNamed, hstate, reduceCtorEq, if_false]
  simp only [State.take, hstand, if_pos hstate]

theorem State.take_of_silent (hstaged : (s.scr i).intake.staged = (s.scr i).intake.selection)
    (hready : (s.slot i (s.scr i).intake.selection).state ≠ .ready)
    (hplaying : (s.slot i (s.scr i).intake.selection).state ≠ .playing) : s.take i = s.supply i := by
  have hstand : (s.applyStaged i).promoteNamed i = s := by
    simp only [State.applyStaged, if_pos hstaged, State.promoteNamed, if_neg hready]
  simp only [State.take, hstand, if_neg hplaying]

/-- The block expected is there: it is played, and the low watermark ends a holding. -/
theorem State.takePlaying_hit {b : Block} {rest : List Block} (hbuffer : (s.slot i l).buffer = b :: rest)
    (hseq : b.seq = (s.slot i l).next) :
    s.takePlaying i l =
      let k := (s.scr i).intake
      let x := s.slot i l
      (s.put i
        { s.scr i with
          intake :=
            { k.setSlot l
                { x with buffer := rest, expected := some (b.seq + 1), holding := x.holding && decide (k.low < rest.length) }
              with lastTaken := some b, followingReal := true } }
        (if rest.length ≤ k.low then x.paceGo else []), b.taken) := by
  simp only [State.takePlaying, hbuffer, if_pos hseq, State.considerGo_eq, State.playOldest, State.modIntake_eq_put,
    State.put_put, State.scr_put_same, State.slot_put_same, List.nil_append]
  cases l <;> simp only [State.slot, Intake.slot] at hbuffer <;>
    simp only [State.slot, Intake.slot, Intake.setSlot, hbuffer, List.tail_cons] <;> rfl

/-- A gap: the block is concealed, the buffer kept. -/
theorem State.takePlaying_gap {b : Block} {rest : List Block} (hbuffer : (s.slot i l).buffer = b :: rest)
    (hseq : b.seq ≠ (s.slot i l).next) :
    s.takePlaying i l =
      let k := (s.scr i).intake
      let x := s.slot i l
      (s.put i
        { s.scr i with
          intake :=
            { k.setSlot l
                { x with expected := some (x.next + 1), holding := x.holding && decide (k.low < x.buffer.length) }
              with followingReal := false },
          live := { (s.scr i).live with blocksConcealed := bumped (s.scr i).live.blocksConcealed } }
        (if x.buffer.length ≤ k.low then x.paceGo else []), k.concealed) := by
  have hbranch : s.takePlaying i l =
      (((s.conceal i).1.modSlot i l (fun x => { x with expected := some (x.next + 1) })).considerGo i l,
        (s.conceal i).2) := by
    simp only [State.takePlaying, hbuffer, if_neg hseq]
  rw [hbranch]
  simp only [State.conceal_eq, State.considerGo_eq, State.modSlot_eq_put, State.put_put, State.scr_put_same,
    State.slot_put_same, List.nil_append]
  cases l <;> rfl

theorem State.takePlaying_empty (hbuffer : (s.slot i l).buffer = []) : s.takePlaying i l = (s.starve i l).supply i := by
  simp only [State.takePlaying, hbuffer]
  rfl

/-- The blocks of a slot that starves. -/
theorem State.scr_starve :
    (s.starve i l).scr i =
      { s.scr i with
        intake := (s.scr i).intake.setSlot l { s.slot i l with state := .starved, holding := false },
        live := { (s.scr i).live with underruns := bumped (s.scr i).live.underruns } } := by
  rw [State.starve_eq, State.scr_told, State.scr_put_same]

/-- An underrun without failover: the slot starves, its expected sequence advances, and the block is concealed. -/
theorem State.takePlaying_starves (hsel : (s.scr i).intake.selection = l) (hbuffer : (s.slot i l).buffer = [])
    (hfails : ¬ ((s.scr i).intake.policy = .failover ∧ (s.scr i).intake.selection = .a ∧
      (s.scr i).intake.slotB.state = .ready ∧ (s.scr i).intake.slotB.buffer ≠ [])) :
    s.takePlaying i l =
      let k := (s.scr i).intake
      let x := s.slot i l
      ((s.put i
          { s.scr i with
            intake :=
              { k.setSlot l { x with state := .starved, expected := some (x.next + 1), holding := false }
                with followingReal := false },
            live :=
              { (s.scr i).live with
                underruns := bumped (s.scr i).live.underruns,
                blocksConcealed := bumped (s.scr i).live.blocksConcealed } }
          x.paceGo).told i l x { x with state := .starved }, k.concealed) := by
  have hnamed : ((s.starve i l).scr i).intake.selection = l := by rw [State.scr_starve, Intake.setSlot_selection, hsel]
  have hslot : (s.starve i l).slot i l = { s.slot i l with state := .starved, holding := false } := by
    rw [State.slot, State.scr_starve, Intake.slot_setSlot_same]
  have hdue : ¬ (((s.starve i l).scr i).intake.failoverDue = true ∧ ((s.starve i l).scr i).intake.slotB.buffer ≠ []) := by
    rw [State.scr_starve, Intake.failoverDue_iff]
    rintro ⟨⟨hpolicy, hselection, _, hready⟩, hheld⟩
    simp only [Intake.setSlot_policy, Intake.setSlot_selection] at hpolicy hselection
    obtain rfl : l = .a := hsel.symm.trans hselection
    exact hfails ⟨hpolicy, hselection, hready, hheld⟩
  have hempty : ((s.starve i l).slot i l).buffer = [] := by rw [hslot, hbuffer]
  rw [State.takePlaying_empty hbuffer, State.supply_of_starved (by rw [hnamed, hslot]) hdue]
  dsimp only
  rw [hnamed, Slot.advanced_of_empty hempty, Slot.advancedCounts_of_empty hempty, hslot, State.scr_starve, State.starve_eq]
  dsimp only
  simp only [State.put_told, State.scr_put_same, State.put_put, Intake.setSlot_setSlot, Intake.concealed_setSlot,
    List.append_nil]
  exact congrArg (·, _) (State.told_congr rfl rfl rfl rfl rfl)

/-- The two records of a failover, behind its change of the screen (R5, R22). -/
theorem State.failover_of_ready {b : Block} (hready : (s.scr i).intake.slotB.state = .ready) :
    s.failover i b =
      let k := (s.scr i).intake
      let live := (s.scr i).live
      (((s.put i
          { s.scr i with
            intake :=
              { k with
                selection := .b, staged := .b, lastTaken := some b, followingReal := true,
                slotB := { k.slotB with state := .playing, expected := some (b.seq + 1), buffer := k.slotB.buffer.tail } },
            live := { live with failovers := bumped live.failovers } } []).post .streamFailover i
          ([0x00, 0x01] ++ u32 (b.position.getD 4294967295))).post .streamState i
          ([0x01] ++ u32 (k.slotB.streamId.getD 0xFFFFFFFF).toNat ++
            [BitVec.ofNat 8 SlotState.ready.code, BitVec.ofNat 8 SlotState.playing.code] ++ u16 k.slotB.buffer.length),
        b.taken) := by
  rw [State.failover_eq]
  dsimp only
  rw [State.told, if_neg (by rw [hready]; exact nofun), hready]
  rfl

/-- An underrun of slot A with failover: the slot starves behind its record, and slot B plays. -/
theorem State.takePlaying_failsOver {b : Block} {rest : List Block} (hsel : (s.scr i).intake.selection = .a)
    (hstate : (s.slot i .a).state = .playing) (hbuffer : (s.slot i .a).buffer = [])
    (hpolicy : (s.scr i).intake.policy = .failover) (hready : (s.scr i).intake.slotB.state = .ready)
    (hb : (s.scr i).intake.slotB.buffer = b :: rest) :
    s.takePlaying i .a =
      let k := (s.scr i).intake
      let x := s.slot i .a
      let live := (s.scr i).live
      let u := s.post .streamState i
        ([BitVec.ofNat 8 Letter.a.code] ++ u32 (x.streamId.getD 0xFFFFFFFF).toNat ++
          [BitVec.ofNat 8 SlotState.playing.code, BitVec.ofNat 8 SlotState.starved.code] ++ u16 0)
      let c : Screen :=
        { s.scr i with
          intake :=
            { k with
              selection := .b, staged := .b, lastTaken := some b, followingReal := true,
              slotA := { x with state := .starved, holding := false },
              slotB := { k.slotB with state := .playing, expected := some (b.seq + 1), buffer := k.slotB.buffer.tail } },
          live := { live with underruns := bumped live.underruns, failovers := bumped live.failovers } }
      let done : State := { s.put i c x.paceGo with queue := u.queue, port := u.port }
      ((done.post .streamFailover i ([0x00, 0x01] ++ u32 (b.position.getD 4294967295))).post .streamState i
          ([0x01] ++ u32 (k.slotB.streamId.getD 0xFFFFFFFF).toNat ++
            [BitVec.ofNat 8 SlotState.ready.code, BitVec.ofNat 8 SlotState.playing.code] ++ u16 k.slotB.buffer.length),
        b.taken) := by
  have hintake : ((s.starve i .a).scr i).intake =
      (s.scr i).intake.setSlot .a { s.slot i .a with state := .starved, holding := false } := by rw [State.scr_starve]
  have hdue : ((s.starve i .a).scr i).intake.failoverDue = true := by
    rw [hintake, Intake.failoverDue_iff]
    exact ⟨hpolicy, hsel, rfl, hready⟩
  have hstarve : s.starve i .a =
      { s.put i ((s.starve i .a).scr i) (s.slot i .a).paceGo with
        queue := (s.post .streamState i
          ([BitVec.ofNat 8 Letter.a.code] ++ u32 ((s.slot i .a).streamId.getD 0xFFFFFFFF).toNat ++
            [BitVec.ofNat 8 SlotState.playing.code, BitVec.ofNat 8 SlotState.starved.code] ++ u16 0)).queue,
        port := (s.post .streamState i
          ([BitVec.ofNat 8 Letter.a.code] ++ u32 ((s.slot i .a).streamId.getD 0xFFFFFFFF).toNat ++
            [BitVec.ofNat 8 SlotState.playing.code, BitVec.ofNat 8 SlotState.starved.code] ++ u16 0)).port } := by
    rw [State.scr_starve, State.starve_eq]
    dsimp only
    rw [State.told, if_neg (by rw [hstate]; exact nofun), hstate]
    dsimp only
    rw [hbuffer]
    exact State.post_congr rfl rfl rfl (by rw [State.scr_put_same])
  rw [State.takePlaying_empty hbuffer, State.supply_of_failover (b := b) (rest := rest) hdue (by rw [hintake]; exact hb),
    State.failover_of_ready (by rw [hintake]; exact hready), State.scr_starve, hstarve]
  simp only [State.put, Vector.set_set, List.append_nil]
  rfl

end

section

variable {s : State} {i : ScreenIx} {l : Letter} {k : Intake} {x : Slot}

/-! ### The selection staged, and the slot then named (R18) -/

theorem State.applyStaged_of_staged (h : (s.scr i).intake.staged = (s.scr i).intake.selection) : s.applyStaged i = s :=
  if_pos h

/-- A take from a state whose selection is applied is the take from that state. -/
theorem State.take_of_applied {u : State} (happlied : s.applyStaged i = u)
    (hsettled : (u.scr i).intake.staged = (u.scr i).intake.selection) : s.take i = u.take i := by
  unfold State.take
  rw [happlied, State.applyStaged_of_staged hsettled]

/-- A READY slot that is named plays, behind its record. -/
theorem State.take_of_ready (hstaged : (s.scr i).intake.staged = (s.scr i).intake.selection)
    (hready : (s.slot i (s.scr i).intake.selection).state = .ready) :
    s.take i =
      State.take
        ((s.put i
          { s.scr i with
            intake := (s.scr i).intake.setSlot (s.scr i).intake.selection
              { s.slot i (s.scr i).intake.selection with state := .playing } } []).told i (s.scr i).intake.selection
            (s.slot i (s.scr i).intake.selection) { s.slot i (s.scr i).intake.selection with state := .playing }) i := by
  obtain ⟨u, hu⟩ : ∃ u : State, u = s.enterSlotState i (s.scr i).intake.selection .playing := ⟨_, rfl⟩
  have hscr : (u.scr i).intake = (s.scr i).intake.setSlot (s.scr i).intake.selection
      { s.slot i (s.scr i).intake.selection with state := .playing } := by
    rw [hu, State.enterSlotState_eq, State.scr_told, State.scr_put_same]
  have hpromoted : (s.applyStaged i).promoteNamed i = u := by
    rw [State.applyStaged_of_staged hstaged, State.promoteNamed, if_pos hready, hu]
  have hstand : (u.applyStaged i).promoteNamed i = u := by
    rw [State.applyStaged_of_staged (by rw [hscr, Intake.setSlot_staged, Intake.setSlot_selection, hstaged]),
      State.promoteNamed, State.slot, hscr, Intake.setSlot_selection, Intake.slot_setSlot_same]
    exact if_neg nofun
  rw [← State.enterSlotState_eq, ← hu]
  unfold State.take
  rw [hpromoted, hstand]

theorem Intake.setSlot_selecting {y : Slot} : { k.setSlot l y with selection := k.selection } = k.setSlot l y := by
  cases l <;> rfl

/-- The slot that was named leaves PLAYING and is READY or FILLING by its fill (R18). -/
theorem Intake.dropped_of_playing (h : (k.slot k.selection).state = .playing) :
    k.dropped =
      if k.start ≤ (k.slot k.selection).buffer.length then
        { Slot.slide k.start (k.slot k.selection) with state := .ready, holding := false }
      else { k.slot k.selection with state := .filling, holding := false } := by
  rw [Intake.dropped, if_neg (not_not_intro h)]

/-! ### A settled selection that plays nothing (R21) -/

theorem State.supply_of_silent (h : ¬ ((s.scr i).intake.failoverDue = true ∧ (s.scr i).intake.slotB.buffer ≠ []))
    (hstate : (s.slot i (s.scr i).intake.selection).state ≠ .starved) : s.supply i = s.conceal i := by
  rw [State.supply_of_not_failover h, State.starvedAdvance_of_not_starved hstate]

/-! ### What a take's equation says of the parts -/

theorem put_result {r : State × Taken} {c : Screen} {pace : List EthernetFrame} {t : Taken}
    (h : r = (s.put i c pace, t)) :
    r.2 = t ∧ r.1.scr i = c ∧ r.1.slot i l = c.intake.slot l ∧ r.1.queue = s.queue ∧
      r.1.paceOut = s.paceOut ++ pace := by
  subst h
  exact ⟨rfl, State.scr_put_same, State.slot_put_same, rfl, rfl⟩

theorem told_result {r : State × Taken} {c : Screen} {pace : List EthernetFrame} {t : Taken} {m : Letter} {y : Slot}
    (h : r = ((s.put i c pace).told i m x y, t)) :
    r.2 = t ∧ r.1.scr i = c ∧ r.1.slot i l = c.intake.slot l ∧ r.1.paceOut = s.paceOut ++ pace := by
  subst h
  exact ⟨rfl, State.scr_told.trans State.scr_put_same, State.slot_told.trans State.slot_put_same, State.told_paceOut⟩

theorem State.paceOut_post {what : EventType} {j : ScreenIx} {detail : List Byte} :
    (s.post what j detail).paceOut = s.paceOut := by
  obtain ⟨_, _, h⟩ := State.postAt_frame (s := s) (what := what) (screen := some j)
    (position := some (s.scr j).clock.position) (detail := detail)
  rw [State.post_eq_postAt, h]

theorem failedOver_result {r : State × Taken} {c : Screen} {pace : List EthernetFrame} {t : Taken} {u : State}
    {what what' : EventType} {detail detail' : List Byte}
    (h : r = ((({ s.put i c pace with queue := u.queue, port := u.port }).post what i detail).post what' i detail', t)) :
    r.2 = t ∧ r.1.scr i = c ∧ r.1.paceOut = s.paceOut ++ pace := by
  subst h
  refine ⟨rfl, ?_, ?_⟩
  · rw [State.scr_post, State.scr_post]
    exact State.scr_put_same (pace := pace)
  · rw [State.paceOut_post, State.paceOut_post]
    rfl

end

/-- Settles O50: each way the take can go, read off its equation. -/
theorem takeFromPlayingSlot : Obligations.TakeFromPlayingSlot := by
  refine ⟨fun s i l e => ?_, fun s i => ?_, fun s i => ?_⟩
  · intro k x r k' y live live' up repeated fails hsel hstaged hstate hexpected
    have hnext : x.next = e := by rw [Slot.next, hexpected, Option.getD_some]
    have htake : r = s.takePlaying i l := by
      have := State.take_of_playing (s := s) (i := i) (hstaged.trans hsel.symm) (by rw [hsel]; exact hstate)
      rwa [hsel] at this
    clear_value r
    refine ⟨fun b rest hbuffer hseq => ?_, fun b rest last hbuffer hseq hlast => ?_, fun last hbuffer hfails hlast => ?_,
      fun b rest hbuffer hfails hb => ?_⟩
    · obtain ⟨hyield, hscr, hslot, hqueue, hpace⟩ :=
        put_result (l := l) (htake.trans (State.takePlaying_hit hbuffer (hseq.trans hnext.symm)))
      refine ⟨hyield, hslot.trans ?_, congrArg (·.intake.lastTaken) hscr, congrArg (·.intake.followingReal) hscr,
        congrArg (·.live) hscr, hqueue, hpace⟩
      rw [← hseq]
      cases l <;> rfl
    · obtain ⟨hyield, hscr, hslot, -, -⟩ :=
        put_result (l := l) (htake.trans (State.takePlaying_gap hbuffer (fun h => hseq (h.trans hnext))))
      have hy : y = { x with expected := some (e + 1), holding := x.holding && decide (k.low < x.buffer.length) } := by
        rw [← hnext]
        exact hslot.trans (by cases l <;> rfl)
      exact ⟨hyield.trans (Intake.concealed_of_last hlast), congrArg (·.buffer) hy, congrArg (·.expected) hy,
        (congrArg (·.state) hy).trans hstate, (congrArg (·.intake.lastTaken) hscr).trans Intake.setSlot_lastTaken,
        congrArg (·.intake.followingReal) hscr, congrArg (·.live) hscr⟩
    · obtain ⟨hyield, hscr, hslot, hpace⟩ :=
        told_result (l := l) (htake.trans (State.takePlaying_starves hsel hbuffer (by rw [hsel]; exact hfails)))
      rw [hnext] at hslot
      exact ⟨hyield.trans (Intake.concealed_of_last hlast), hslot.trans (by cases l <;> rfl),
        congrArg (·.intake.followingReal) hscr, hpace, congrArg (·.live) hscr⟩
    · obtain ⟨hpolicy, rfl, hready, -⟩ := hfails
      obtain ⟨hyield, hscr, -⟩ :=
        failedOver_result (htake.trans (State.takePlaying_failsOver hsel hstate hbuffer hpolicy hready hb))
      exact ⟨hyield, congrArg (·.intake.selection) hscr, congrArg (·.intake.staged) hscr,
        congrArg (·.intake.slotB.state) hscr, (congrArg (·.intake.slotB.buffer) hscr).trans (congrArg List.tail hb),
        congrArg (·.intake.slotB.expected) hscr, congrArg (·.intake.slotA) hscr, congrArg (·.live) hscr⟩
  · intro k l x put told
    have hscr (y : Slot) (m : Letter) : (put y m).scr i = { s.scr i with intake := { k.setSlot l y with selection := m } } :=
      State.scr_put_same (s := s) (pace := [])
    have hsettled (y : Slot) :
        ({ k.setSlot l y with selection := k.staged } : Intake).staged =
          ({ k.setSlot l y with selection := k.staged } : Intake).selection := Intake.setSlot_staged
    refine ⟨fun hne hnot => ?_, fun hne hplay hshort => ?_, fun hne hplay hlong => ?_, fun hsame hready => ?_⟩
    · have hdropped : k.dropped = x := if_pos hnot
      have hpace : k.droppedPace = [] := if_neg hnot
      refine State.take_of_applied ?_ (by rw [hscr]; exact hsettled x)
      rw [State.applyStaged_eq hne]
      dsimp only
      rw [hdropped, hpace]
      exact (State.told_same rfl).trans State.put_nil
    · have hdropped : k.dropped = { x with state := .filling, holding := false } :=
        (Intake.dropped_of_playing hplay).trans (if_neg (Nat.not_le.mpr hshort))
      have hpace : k.droppedPace = x.paceGo := if_pos hplay
      refine State.take_of_applied ?_ (by
        rw [State.scr_post]
        exact (congrArg (fun c : Screen => c.intake.staged = c.intake.selection) (hscr _ _)).mpr (hsettled _))
      rw [State.applyStaged_eq hne]
      dsimp only
      rw [hdropped, hpace, State.told, if_neg (by change x.state ≠ _; rw [hplay]; exact nofun)]
      rfl
    · have hdropped : k.dropped = { Slot.slide k.start x with state := .ready, holding := false } :=
        (Intake.dropped_of_playing hplay).trans (if_pos hlong)
      have hpace : k.droppedPace = x.paceGo := if_pos hplay
      have hfill : (x.buffer.drop (x.buffer.length - k.start)).length = k.start := by
        rw [List.length_drop]
        exact Nat.sub_sub_self hlong
      intro gone y
      refine State.take_of_applied ?_ (by
        rw [State.scr_post]
        exact (congrArg (fun c : Screen => c.intake.staged = c.intake.selection) (hscr _ _)).mpr (hsettled _))
      rw [State.applyStaged_eq hne]
      dsimp only
      rw [hdropped, hpace, State.told, if_neg (by change x.state ≠ _; rw [hplay]; exact nofun), Slot.slide_eq]
      dsimp only
      rw [hfill]
      rfl
    · rw [State.take_of_ready hsame hready, State.told, if_neg (by rw [hready]; exact nofun), State.put_nil]
      have hput : put { x with state := .playing } l =
          { s with screens := s.screens.set i { s.scr i with intake := k.setSlot l { x with state := .playing } } } := by
        dsimp only [put]
        rw [Intake.setSlot_selecting]
      rw [hput]
  · intro k x live up repeated concealed hstaged
    have hrepeated : k.concealed = repeated := Intake.concealed_eq
    have hconcealed (y : Slot) (n : Counters) :
        s.put i
          { s.scr i with
            intake := { k.setSlot k.selection y with followingReal := false },
            live := { n with blocksConcealed := bumped n.blocksConcealed } } [] = concealed y n := State.put_nil
    refine ⟨fun hstate => ?_, fun e hstate hexpected hfails => ?_, fun b rest hstate hpolicy hsel hready hb => ?_,
      fun hstate hbuffer hlast hfails => ?_, fun e b rest hstate hexpected hbuffer hseq => ?_, ?_⟩
    · have hnot : x.state ≠ .starved := by rcases hstate with h | h | h | h <;> rw [h] <;> exact nofun
      have hdue : ¬ (k.failoverDue = true ∧ k.slotB.buffer ≠ []) := fun ⟨h, _⟩ => by
        obtain ⟨_, hsel, hstarved, _⟩ := Intake.failoverDue_iff.mp h
        exact hnot ((congrArg (fun l => (s.slot i l).state) hsel).trans hstarved)
      rw [State.take_of_silent hstaged (by rcases hstate with h | h | h | h <;> rw [h] <;> exact nofun)
          (by rcases hstate with h | h | h | h <;> rw [h] <;> exact nofun),
        State.supply_of_silent hdue hnot, State.conceal_eq, ← hrepeated, ← hconcealed]
      exact congrArg (fun k' : Intake => (s.put i
          { s.scr i with
            intake := { k' with followingReal := false },
            live := { live with blocksConcealed := bumped live.blocksConcealed } } [], k.concealed))
        (Intake.setSlot_slot (k := k)).symm
    · have hnext : x.next = e := by rw [Slot.next, hexpected, Option.getD_some]
      have hdue : ¬ (k.failoverDue = true ∧ k.slotB.buffer ≠ []) := fun ⟨h, hheld⟩ => by
        obtain ⟨hpolicy, hsel, _, hready⟩ := Intake.failoverDue_iff.mp h
        exact hfails ⟨hpolicy, hsel, hready, hheld⟩
      rw [State.take_of_silent hstaged (by rw [hstate]; exact nofun) (by rw [hstate]; exact nofun),
        State.supply_of_starved hstate hdue]
      refine congr (congrArg Prod.mk ((hconcealed _ _).trans ?_)) hrepeated
      cases hbuffer : x.buffer with
      | nil =>
        rw [Slot.advanced_of_empty hbuffer, Slot.advancedCounts_of_empty hbuffer, hnext, hbuffer]
      | cons b rest =>
        dsimp only
        by_cases hseq : b.seq = e
        · rw [if_pos hseq, Slot.advanced_of_due hbuffer (hseq.trans hnext.symm),
            Slot.advancedCounts_of_due hbuffer (hseq.trans hnext.symm), hnext]
          rfl
        · have hgap : b.seq ≠ x.next := fun h => hseq (h.trans hnext)
          rw [if_neg hseq, Slot.advanced_of_gap hbuffer hgap, Slot.advancedCounts_of_gap hbuffer hgap, hnext,
            hbuffer]
    · have hdue : k.failoverDue = true :=
        Intake.failoverDue_iff.mpr ⟨hpolicy, hsel, (congrArg (fun l => (s.slot i l).state) hsel).symm.trans hstate, hready⟩
      have htake : s.take i = s.failover i b := by
        rw [State.take_of_silent hstaged (by rw [hstate]; exact nofun) (by rw [hstate]; exact nofun),
          State.supply_of_failover hdue hb]
      obtain ⟨hyield, hscr, hpace⟩ := failedOver_result (u := s) (htake.trans (State.failover_of_ready hready))
      refine ⟨hyield, (congrArg (·.intake) hscr).trans ?_, congrArg (·.live) hscr, hpace.trans (List.append_nil _)⟩
      dsimp only
      rw [hb]
      rfl
    · have htake := State.take_of_playing hstaged hstate
      obtain ⟨hyield, -⟩ := told_result (l := k.selection) (htake.trans (State.takePlaying_starves rfl hbuffer hfails))
      exact hyield.trans hrepeated
    · have hnext : x.next = e := by rw [Slot.next, hexpected, Option.getD_some]
      have htake := State.take_of_playing hstaged hstate
      obtain ⟨hyield, hscr, hslot, hqueue, hpace⟩ :=
        put_result (l := k.selection) (htake.trans (State.takePlaying_gap hbuffer (fun h => hseq (h.trans hnext))))
      intro r y
      refine ⟨hyield.trans hrepeated, hqueue, ?_, hpace, congrArg (·.live) hscr⟩
      rw [← hnext]
      exact hslot.trans (Intake.slot_setSlot_same (k := k))
    · intro known fails starve failedOver
      refine ⟨fun e hstate hexpected hbuffer hfails => ?_, fun b rest hstate hbuffer hfails hb => ?_,
        fun b rest hstate hfails hb => ?_⟩
      · have hnext : x.next = e := by rw [Slot.next, hexpected, Option.getD_some]
        intro done
        have hnone : ¬ (k.policy = .failover ∧ k.selection = .a ∧ k.slotB.state = .ready ∧ k.slotB.buffer ≠ []) :=
          fun ⟨hpolicy, hsel, hready, hheld⟩ => hfails ⟨⟨hpolicy, hsel, hready⟩, hheld⟩
        rw [State.take_of_playing hstaged hstate, State.takePlaying_starves rfl hbuffer hnone]
        refine congr (congrArg Prod.mk ((if_neg (by rw [hstate]; exact nofun)).trans ?_)) hrepeated
        rw [hnext]
        refine congrArg (State.post _ _ i) ?_
        rw [hstate, hbuffer]
        rfl
      · obtain ⟨hpolicy, hsel, hready⟩ := hfails
        have hx : x = s.slot i .a := congrArg (s.slot i) hsel
        have hstarve : starve =
            [BitVec.ofNat 8 Letter.a.code] ++ known (s.slot i .a) ++
              [BitVec.ofNat 8 SlotState.playing.code, BitVec.ofNat 8 SlotState.starved.code] ++ u16 0 := by
          rw [← hx, ← hsel]
        have htake := State.take_of_playing hstaged hstate
        rw [hx] at hstate hbuffer
        rw [htake, hsel, State.takePlaying_failsOver hsel hstate hbuffer hpolicy hready hb, hstarve, hx]
        rfl
      · obtain ⟨hpolicy, hsel, hready⟩ := hfails
        have hx : x = s.slot i .a := congrArg (s.slot i) hsel
        have hdue : k.failoverDue = true :=
          Intake.failoverDue_iff.mpr ⟨hpolicy, hsel, (congrArg Slot.state hx).symm.trans hstate, hready⟩
        rw [State.take_of_silent hstaged (by rw [hstate]; exact nofun) (by rw [hstate]; exact nofun),
          State.supply_of_failover hdue hb, State.failover_of_ready hready, hx]
        rfl

end Sys2Proof.Machine
end

section

/-! # SET_LAYOUT and SET_FORMAT (O38) -/

namespace Sys2Proof.Machine

section

variable {s : State} {i : ScreenIx}

theorem topologyOf_code {t : Topology} : topologyOf t.code = some t := by
  cases t <;> rfl

theorem forcedOf_code {f : Option Format} : forcedOf (match f with | none => 0xFE | some x => x.code) = some f := by
  match f with
  | none => rfl
  | some x => cases x <;> rfl

theorem layoutFields_eq {mask : Byte} {topology : Topology} {delay : Nat} :
    layoutFields mask topology delay = [mask, BitVec.ofNat 8 topology.code] ++ u16 delay := rfl

theorem State.relayout_eq {mask : Byte} :
    s.relayout i mask =
      Vector.ofFn (fun b : Fin 8 =>
        if mask.getLsbD b.val then
          if (s.scr i).decoder.mask.getLsbD b.val then (s.scr i).equaliser.chains[b]
          else List.replicate (s.contents (s.scr i).equaliser.active b).bands.length { x1 := 0, x2 := 0, y1 := 0, y2 := 0 }
        else []) := rfl

/-- SET_LAYOUT of a consistent layout: unchanged, refused during a switch, taken when the pool can give the bands. -/
theorem setLayoutRule_eq {mask : Byte} {topology : Topology} {delay : Nat}
    (hvalid : layoutValid mask topology delay = true) :
    setLayoutRule (i.val + 1) mask topology.code delay s =
      let d := (s.scr i).decoder
      let e := (s.scr i).equaliser
      let ok := [0x00, mask, BitVec.ofNat 8 topology.code] ++ u16 delay
      if mask = d.mask ∧ topology = d.topology ∧ delay = d.delay then (s, ok)
      else if e.switch ≠ .idle then (s, [0x08])
      else if s.requirementOver e.active mask ≤ s.requirement i e.active + s.bandsFree then
        (s.put i
          { s.scr i with
            decoder := { d with mask := mask, topology := topology, delay := delay },
            equaliser := { e with chains := s.relayout i mask } } [], ok)
      else (s, [0x05]) := by
  have hsame : ((s.scr i).decoder.mask = mask ∧ (s.scr i).decoder.topology = topology ∧ (s.scr i).decoder.delay = delay) =
      (mask = (s.scr i).decoder.mask ∧ topology = (s.scr i).decoder.topology ∧ delay = (s.scr i).decoder.delay) := by
    simp only [eq_comm]
  simp only [setLayoutRule, screenOf_code, topologyOf_code, hvalid, if_true, hsame, State.modEqualiser, State.modDecoder,
    State.modScreen_eq_put, State.put_put, State.scr_put_same, List.append_nil]
  rfl

theorem setFormatRule_of {n : Nat} {f : Option Format} (h : forcedOf n = some f) :
    setFormatRule (i.val + 1) n s =
      ({ s with screens := s.screens.set i { s.scr i with decoder := { (s.scr i).decoder with forced := f } } }, [0x00]) := by
  simp only [setFormatRule, screenOf_code, h]
  rfl

end

/-- Settles O38: the four answers of SET_LAYOUT, and SET_FORMAT. -/
theorem layoutAndFormatRequests : Obligations.LayoutAndFormatRequests := by
  refine ⟨fun s q i mask topology delay => ?_, fun s q i f hserved => ?_⟩
  · intro command hrange hserved d e reply ok chains c
    obtain ⟨_, _, hdelay, hL, hR, hside, hrear⟩ := hrange
    have hvalid : layoutValid mask topology delay = true := layoutValid_iff.mpr ⟨hdelay, hL, hR, hside, hrear⟩
    have hrule := setLayoutRule_eq (s := s.beginService) (i := i) hvalid
    by_cases hsame : mask = d.mask ∧ topology = d.topology ∧ delay = d.delay
    · rw [if_pos hsame]
      exact exec_served_of rfl hserved (hrule.trans (if_pos hsame))
    · have hrule := hrule.trans (if_neg hsame)
      rw [if_neg hsame]
      by_cases hswitch : e.switch ≠ .idle
      · rw [if_pos hswitch]
        exact exec_served_of rfl hserved (hrule.trans (if_pos hswitch))
      · have hrule := hrule.trans (if_neg hswitch)
        rw [if_neg hswitch]
        by_cases hfits : s.requirementOver e.active mask ≤ s.requirement i e.active + s.bandsFree
        · rw [if_pos hfits]
          refine (exec_served_of rfl hserved (hrule.trans (if_pos hfits))).trans ?_
          rw [State.put_nil]
          rfl
        · rw [if_neg hfits]
          exact exec_served_of rfl hserved (hrule.trans (if_neg hfits))
  · exact exec_served_of rfl hserved (setFormatRule_of forcedOf_code)

end Sys2Proof.Machine
end

section

/-! # The preset library (O44) and SELECT_PRESET (O45) -/

namespace Sys2Proof.Machine

section

variable {s : State} {i : ScreenIx} {p : PresetIx}

/-! ### The stability check names the first band that fails (R68) -/

theorem stable_iff {x : Band} :
    stable x = true ↔ x.a2.natAbs < 4194304 ∧ (x.a1.natAbs : Int) < 4194304 + x.a2 := by
  rw [stable, Bool.and_eq_true, decide_eq_true_eq, decide_eq_true_eq]
  rfl

theorem firstUnstable_eq_none {bands : List Band} (h : ∀ x ∈ bands, stable x = true) : firstUnstable bands = none := by
  induction bands with
  | nil => rfl
  | cons x xs ih =>
    obtain ⟨hx, hxs⟩ := List.forall_mem_cons.mp h
    rw [firstUnstable, if_pos hx, ih hxs]
    rfl

theorem firstUnstable_eq_some {bands : List Band} {k : Nat} {x : Band} (hk : bands[k]? = some x) (hx : ¬ stable x = true)
    (h : ∀ y ∈ bands.take k, stable y = true) : firstUnstable bands = some k := by
  induction bands generalizing k with
  | nil => exact absurd hk (by simp)
  | cons y ys ih =>
    cases k with
    | zero =>
      obtain rfl : y = x := by simpa using hk
      rw [firstUnstable, if_neg hx]
    | succ k =>
      obtain ⟨hy, hys⟩ := List.forall_mem_cons.mp h
      rw [firstUnstable, if_pos hy, ih hk hys]
      rfl

theorem firstUnstableBus_eq_none {given : List (Bus × BusContents)} (h : ∀ g ∈ given, ∀ x ∈ g.2.bands, stable x = true) :
    firstUnstableBus given = none := by
  induction given with
  | nil => rfl
  | cons g gs ih =>
    obtain ⟨hg, hgs⟩ := List.forall_mem_cons.mp h
    rw [firstUnstableBus, firstUnstable_eq_none hg, ih hgs]

theorem firstUnstableBus_eq_some {given : List (Bus × BusContents)} {j k : Nat} {b : Bus} {c : BusContents}
    (hj : given[j]? = some (b, c)) (hc : firstUnstable c.bands = some k)
    (h : ∀ g ∈ given.take j, ∀ x ∈ g.2.bands, stable x = true) : firstUnstableBus given = some (b, k) := by
  induction given generalizing j with
  | nil => exact absurd hj (by simp)
  | cons g gs ih =>
    cases j with
    | zero =>
      obtain rfl : g = (b, c) := by simpa using hj
      rw [firstUnstableBus, hc]
    | succ j =>
      obtain ⟨hg, hgs⟩ := List.forall_mem_cons.mp h
      rw [firstUnstableBus, firstUnstable_eq_none hg, ih hj hgs]

/-! ### The contents given for the buses of a mask (R67) -/

/-- A bus of the mask stands at the place that counts the buses of the mask below it. -/
theorem maskBuses_getElem? {mask : Byte} {b : Bus} (hb : mask.getLsbD b.val = true) :
    (maskBuses mask)[channelsBelow mask b.val]? = some b := by
  have hlt : b.val < (List.finRange 8).length := by rw [List.length_finRange]; exact b.isLt
  have hsplit : List.finRange 8 = (List.finRange 8).take b.val ++ b :: (List.finRange 8).drop (b.val + 1) := by
    have hat : (List.finRange 8)[b.val] = b := by rw [List.getElem_finRange]; rfl
    calc List.finRange 8 = (List.finRange 8).take b.val ++ (List.finRange 8).drop b.val := (List.take_append_drop _ _).symm
      _ = _ := by rw [List.drop_eq_getElem_cons hlt, hat]
  have hcount : (((List.finRange 8).take b.val).filter (fun b => mask.getLsbD b.val)).length = channelsBelow mask b.val := by
    have hrange : ((List.finRange 8).take b.val).map (fun b => b.val) = List.range b.val := by
      rw [List.map_take, show (List.finRange 8).map (fun b => b.val) = List.range 8 by decide, List.take_range, Nat.min_eq_left (by omega)]
    rw [channelsBelow, ← hrange, List.filter_map, List.length_map]
    rfl
  rw [maskBuses, hsplit, List.filter_append, List.filter_cons_of_pos (p := fun b : Fin 8 => mask.getLsbD b.val) hb, ← hcount,
    List.getElem?_append_right (Nat.le_refl _), Nat.sub_self]
  rfl

theorem maskBuses_nodup {mask : Byte} : (maskBuses mask).Nodup := (List.nodup_finRange 8).filter _

theorem mem_maskBuses {mask : Byte} {b : Bus} : b ∈ maskBuses mask ↔ mask.getLsbD b.val = true := by
  simp [maskBuses]

/-- The contents of a bus of the mask are those given for it. -/
theorem loadedBus_of_given {mask : Byte} {buses : List BusContents} {b : Bus} {c before : BusContents}
    (hb : mask.getLsbD b.val = true) (hc : buses[channelsBelow mask b.val]? = some c) :
    loadedBus ((maskBuses mask).zip buses) before b = c := by
  have hzip : ((maskBuses mask).zip buses)[channelsBelow mask b.val]? = some (b, c) :=
    List.getElem?_zip_eq_some.mpr ⟨maskBuses_getElem? hb, hc⟩
  obtain ⟨hlt, hat⟩ := List.getElem?_eq_some_iff.mp hzip
  have hfind : ((maskBuses mask).zip buses).find? (fun g => decide (g.1 = b)) = some (b, c) := by
    refine List.find?_eq_some_iff_getElem.mpr ⟨decide_eq_true rfl, _, hlt, hat, fun j hj => ?_⟩
    rw [Bool.not_eq_true', decide_eq_false_iff_not, List.getElem_zip]
    intro heq
    have hj' : j < (maskBuses mask).length := by rw [List.length_zip] at hlt; omega
    have hplace : (maskBuses mask)[j]? = (maskBuses mask)[channelsBelow mask b.val]? :=
      (List.getElem?_eq_some_iff.mpr ⟨hj', heq⟩).trans (maskBuses_getElem? hb).symm
    exact Nat.ne_of_lt hj ((List.getElem?_inj hj' maskBuses_nodup).mp hplace)
  rw [loadedBus, hfind]

/-- The contents of another bus stay. -/
theorem loadedBus_of_not_given {mask : Byte} {buses : List BusContents} {b : Bus} {before : BusContents}
    (hb : mask.getLsbD b.val = false) : loadedBus ((maskBuses mask).zip buses) before b = before := by
  have hfind : ((maskBuses mask).zip buses).find? (fun g => decide (g.1 = b)) = none := by
    refine List.find?_eq_none.mpr fun g hg => ?_
    rw [decide_eq_true_eq]
    rintro rfl
    have := mem_maskBuses.mp (List.of_mem_zip hg).1
    rw [hb] at this
    contradiction
  rw [loadedBus, hfind]

/-! ### The rules of the library (R66, R67, R69) -/

theorem State.inUse_iff :
    s.inUse p = true ↔
      ∃ i, (s.scr i).equaliser.active = some p ∨ (s.scr i).equaliser.incoming = some (some p) ∨
        (s.scr i).equaliser.waiting = some (some p) := by
  simp [State.inUse, Equaliser.names, or_assoc]

theorem loadPresetRule_eq {q : Req} {add : Bool} {mask : Byte} {buses : List BusContents}
    (hrange : (Instr.loadPreset q (p.val + 1) (boolCode add) mask buses).inRange) :
    loadPresetRule (p.val + 1) (boolCode add) mask buses s =
      match firstUnstableBus ((maskBuses mask).zip buses) with
      | some (b, k) => (s, [0x02, BitVec.ofNat 8 b.val, BitVec.ofNat 8 k])
      | none =>
        if add = true ∧ s.library[p] = none then (s, [0x07])
        else if s.inUse p then (s, [0x06])
        else
          let before (b : Bus) : BusContents := if add then s.contents (some p) b else { offset := 0, bands := [] }
          let preset : Preset := { buses := Vector.ofFn (fun b => loadedBus ((maskBuses mask).zip buses) (before b) b) }
          ({ s with library := s.library.set p (some preset) },
            [0x00] ++ u16 (p.val + 1) ++ [0x08] ++
              preset.buses.toList.flatMap (fun c : BusContents => u16 c.bands.length)) := by
  obtain ⟨_, _, hmode, hmask, hlength, hbuses⟩ := hrange
  have hfields : ¬ (1 < boolCode add ∨ mask = 0 ∨ buses.length ≠ maskCount mask) := by
    rintro (h | h | h)
    · exact absurd h (Nat.not_lt.mpr hmode)
    · exact hmask h
    · exact h hlength
  have hcontents : ¬ (buses.any (fun c =>
      decide (16 < c.bands.length) || decide (c.offset < -72) || decide (24 < c.offset)) = true) := by
    simp only [List.any_eq_true, Bool.or_eq_true, decide_eq_true_eq, not_exists, not_and]
    intro c hc
    obtain ⟨h16, hlow, hhigh⟩ := hbuses c hc
    omega
  have hadd : (boolCode add = 1) = (add = true) := by cases add <;> simp [boolCode]
  unfold loadPresetRule
  rw [presetOf_code]
  dsimp only
  rw [if_neg hfields, if_neg hcontents]
  simp only [hadd, listField_eq_flatMap, Vector.length_toList]
  rfl

theorem dropPresetRule_eq :
    dropPresetRule (p.val + 1) s =
      if s.inUse p then (s, [0x06]) else ({ s with library := s.library.set p none }, [0x00]) := by
  simp only [dropPresetRule, presetOf_code]
  rfl

end

/-- Settles O44: the load of a sound request, the first unstable band of another, and the drop. -/
theorem presetLibraryRequests : Obligations.PresetLibraryRequests := by
  unfold Obligations.PresetLibraryRequests
  intro inUse sound
  have hsound {x : Band} : stable x = true ↔ sound x := stable_iff
  have hinUse {s : State} {p : PresetIx} : s.beginService.inUse p = true ↔ inUse s p := State.inUse_iff
  refine ⟨fun s q p add mask buses => ?_, fun s q p add mask buses b k c x => ?_, fun s q p hserved => ?_⟩
  · intro command reply hrange hserved hbands
    have hnone : firstUnstableBus ((maskBuses mask).zip buses) = none :=
      firstUnstableBus_eq_none fun g hg x hx => hsound.mpr (hbands g.2 (List.of_mem_zip hg).2 x hx)
    have hrule := loadPresetRule_eq (s := s.beginService) hrange
    rw [hnone] at hrule
    refine ⟨fun hempty => ?_, fun hheld huse => ?_, fun hheld huse => ?_⟩
    · exact exec_served_of rfl hserved (hrule.trans (if_pos hempty))
    · exact exec_served_of rfl hserved ((hrule.trans (if_neg hheld)).trans (if_pos (hinUse.mpr huse)))
    · obtain ⟨_, _, _, _, hlength, _⟩ := hrange
      refine ⟨_, (exec_served_of rfl hserved ((hrule.trans (if_neg hheld)).trans (if_neg (mt hinUse.mp huse)))).trans rfl,
        fun b => ⟨fun hb => ?_, fun hb => ?_⟩⟩
      · have hlt : channelsBelow mask b.val < buses.length := by
          rw [hlength, maskCount_eq, Nat.lt_iff_add_one_le, ← channelsBelow_succ hb]
          exact channelsBelow_le b.isLt
        rw [List.getElem?_eq_getElem hlt, Fin.getElem_fin, Vector.getElem_ofFn,
          loadedBus_of_given hb (List.getElem?_eq_getElem hlt)]
      · rw [Fin.getElem_fin, Vector.getElem_ofFn, loadedBus_of_not_given hb]
        rfl
  · intro command hrange hserved hb hc hx hnot hbefore hbands
    have hsome : firstUnstableBus ((maskBuses mask).zip buses) = some (b, k) := by
      refine firstUnstableBus_eq_some (List.getElem?_zip_eq_some.mpr ⟨maskBuses_getElem? hb, hc⟩)
        (firstUnstable_eq_some hx (mt hsound.mp hnot) fun y hy => hsound.mpr (hbands y hy)) fun g hg y hy => ?_
      rw [List.zip_eq_zipWith, List.take_zipWith, ← List.zip_eq_zipWith] at hg
      exact hsound.mpr (hbefore g.2 (List.of_mem_zip hg).2 y hy)
    have hrule := loadPresetRule_eq (s := s.beginService) hrange
    rw [hsome] at hrule
    exact exec_served_of rfl hserved hrule
  · have hrule := dropPresetRule_eq (s := s.beginService) (p := p)
    exact ⟨fun huse => exec_served_of rfl hserved (hrule.trans (if_pos (hinUse.mpr huse))),
      fun huse => (exec_served_of rfl hserved (hrule.trans (if_neg (mt hinUse.mp huse)))).trans rfl⟩

end Sys2Proof.Machine
end

section

/-! # SELECT_PRESET (O45) -/

namespace Sys2Proof.Machine

section

variable {s : State} {i : ScreenIx} {target : Target}

theorem targetOf_code : targetOf (match target with | none => 0 | some p => p.val + 1) = some target := by
  match target with
  | none => rfl
  | some p =>
    have hp := p.isLt
    rw [targetOf_eq, if_neg (Nat.succ_ne_zero _), if_pos (Nat.succ_le_of_lt hp)]
    exact congrArg (fun p => some (some p)) (Fin.ext (Nat.mod_eq_of_lt hp))

theorem targetOf_eq_none {n : Nat} (h : ¬ n ≤ 32) : targetOf n = none := by
  rw [targetOf_eq, if_neg (by omega), if_neg h]

theorem State.targetEmpty_iff : s.targetEmpty target = true ↔ ∃ p, target = some p ∧ s.library[p] = none := by
  match target with
  | none => simp [State.targetEmpty]
  | some p => simp [State.targetEmpty, Option.isNone_iff_eq_none]

/-! ### A switch that starts (R77, R80) -/

/-- The equaliser of a screen that begins a crossfade. -/
def State.crossing (s : State) (i : ScreenIx) (target : Target) : Equaliser :=
  { (s.scr i).equaliser with
    switch := .crossfade, incoming := some target, count := 0,
    inChains := Vector.ofFn (fun b : Fin 8 =>
      if (s.scr i).decoder.mask.getLsbD b.val then
        List.replicate (s.contents target b).bands.length { x1 := 0, x2 := 0, y1 := 0, y2 := 0 }
      else []) }

/-- The equaliser of a screen that begins a cut. -/
def State.cutting (s : State) (i : ScreenIx) (target : Target) : Equaliser :=
  { (s.scr i).equaliser with
    switch := .cut, incoming := some target, phase := some .fadeOut,
    delta := s.requirement i target - s.requirement i (s.scr i).equaliser.active }

theorem State.startCrossfade_eq :
    s.startCrossfade i target = s.put i { s.scr i with equaliser := s.crossing i target } [] :=
  State.modScreen_eq_put (f := fun c => { c with equaliser := s.crossing i target })

theorem State.startCut_eq :
    s.startCut i target =
      s.put i
        { s.scr i with
          equaliser := s.cutting i target,
          gain := { (s.scr i).gain with switchTerm := { (s.scr i).gain.switchTerm with target := -480 } } } [] := by
  simp only [State.startCut, State.aimSwitchTerm, State.modEqualiser, State.modGain, State.modScreen_eq_put, State.put_put,
    State.scr_put_same, List.append_nil]
  rfl

theorem State.makePending_eq :
    s.makePending i target =
      let waiting : State :=
        { s with
          screens := s.screens.set i
            { s.scr i with equaliser := { (s.scr i).equaliser with waiting := some target } } }
      match (s.scr i).equaliser.waiting with
      | none => waiting
      | some displaced => waiting.post .presetReplaced i (targetField displaced ++ targetField target) := rfl

/-! ### The pool's free count after a start (R71) -/

theorem State.bandsHeld_of_idle (h : (s.scr i).equaliser.switch = .idle) :
    s.bandsHeld i = s.requirement i (s.scr i).equaliser.active := by
  simp only [State.bandsHeld, h, reduceCtorEq, if_false, false_and, Nat.add_zero]

theorem State.bandsHeld_put {c : Screen} (hmask : c.decoder.mask = (s.scr i).decoder.mask) :
    (s.put i c []).bandsHeld i =
      s.requirement i c.equaliser.active +
        (if c.equaliser.switch = .crossfade then s.requirement i (c.equaliser.incoming.getD none) else 0) +
        (if c.equaliser.switch = .cut ∧ c.equaliser.phase = some .fadeOut then c.equaliser.delta else 0) := by
  have hrequirement : (s.put i c []).requirement i = s.requirement i :=
    State.requirement_congr rfl (by rw [State.scr_put_same, hmask])
  rw [State.bandsHeld, hrequirement, State.scr_put_same]

/-- What the screen holds more than it held, the pool has less. -/
theorem State.bandsFree_put {c : Screen} {more : Nat} (h : (s.put i c []).bandsHeld i = s.bandsHeld i + more) :
    (s.put i c []).bandsFree = s.bandsFree - more := by
  have hadd := State.bandsHeldInAll_add (s := s) (t := s.put i c []) (i := i) rfl
    (fun j hj => congrArg Screen.claims ((State.scr_put (pace := [])).trans (if_neg (Ne.symm hj))))
  rw [State.bandsFree, State.bandsFree]
  omega

theorem State.bandsFree_startCrossfade (h : (s.scr i).equaliser.switch = .idle) :
    (s.startCrossfade i target).bandsFree = s.bandsFree - s.requirement i target := by
  rw [State.startCrossfade_eq]
  refine State.bandsFree_put ?_
  rw [State.bandsHeld_of_idle h, State.bandsHeld_put]
  · rfl
  · rfl

theorem State.bandsFree_startCut (h : (s.scr i).equaliser.switch = .idle) :
    (s.startCut i target).bandsFree =
      s.bandsFree - (s.requirement i target - s.requirement i (s.scr i).equaliser.active) := by
  rw [State.startCut_eq]
  refine State.bandsFree_put ?_
  rw [State.bandsHeld_of_idle h, State.bandsHeld_put]
  · rfl
  · rfl

theorem State.bandsFree_post {what : EventType} {detail : List Byte} : (s.post what i detail).bandsFree = s.bandsFree := by
  obtain ⟨_, _, h⟩ := State.postAt_frame (s := s) (what := what) (screen := some i)
    (position := some (s.scr i).clock.position) (detail := detail)
  rw [State.post_eq_postAt, h]
  rfl

/-! ### The rule (R76, R82) -/

theorem selectPresetRule_empty {n : Nat} (hn : targetOf n = some target) (h : s.targetEmpty target = true) :
    selectPresetRule (i.val + 1) n s = (s, [0x07]) := by
  simp only [selectPresetRule, screenOf_code, hn, if_pos h]
  rfl

/-- The table of R76 on an IDLE screen. -/
theorem selectPresetRule_idle {n : Nat} (hn : targetOf n = some target) (h : ¬ s.targetEmpty target = true)
    (hidle : (s.scr i).equaliser.switch = .idle) :
    selectPresetRule (i.val + 1) n s =
      let old := s.requirement i (s.scr i).equaliser.active
      let new := s.requirement i target
      let free := s.bandsFree
      if target = (s.scr i).equaliser.active then (s, [0x00, 0x00] ++ u16 free)
      else if new ≤ free then (s.startCrossfade i target, [0x00, 0x01] ++ u16 (free - new))
      else if new ≤ free + old then (s.startCut i target, [0x00, 0x02] ++ u16 (free - (new - old)))
      else (s, [0x05]) := by
  have hrule : selectPresetRule (i.val + 1) n s =
      match s.decideIdle i target with
      | .noBands => (s, [0x05])
      | d => (s.carryOut i target d, [0x00, BitVec.ofNat 8 d.code] ++ u16 (s.carryOut i target d).bandsFree) := by
    simp only [selectPresetRule, screenOf_code, hn, if_neg h, State.select, if_pos hidle]
    cases s.decideIdle i target <;> rfl
  rw [hrule, State.decideIdle]
  dsimp only
  by_cases hsame : target = (s.scr i).equaliser.active
  · rw [if_pos hsame, if_pos hsame]
    rfl
  · rw [if_neg hsame, if_neg hsame]
    by_cases hwhole : s.requirement i target ≤ s.bandsFree
    · rw [if_pos hwhole, if_pos hwhole]
      dsimp only
      rw [State.carryOut, State.bandsFree_startCrossfade hidle]
      rfl
    · rw [if_neg hwhole, if_neg hwhole]
      by_cases honce : s.requirement i target ≤ s.bandsFree + s.requirement i (s.scr i).equaliser.active
      · rw [if_pos honce, if_pos honce]
        dsimp only
        rw [State.carryOut, State.bandsFree_startCut hidle]
        rfl
      · rw [if_neg honce, if_neg honce]

/-- A target that waits is not among the screen's claims. -/
theorem State.bandsFree_makePending : (s.makePending i target).bandsFree = s.bandsFree := by
  have hwaiting : (s.modEqualiser i (fun e => { e with waiting := some target })).bandsFree = s.bandsFree := by
    refine State.bandsFree_congr rfl fun j => ?_
    rw [State.modEqualiser, State.modScreen_eq_put, State.scr_put]
    split
    next h =>
      subst h
      rfl
    next => rfl
  unfold State.makePending
  dsimp only
  split
  · exact hwaiting
  · rw [State.bandsFree_post, hwaiting]

/-- During a switch the target waits. -/
theorem selectPresetRule_waits {n : Nat} (hn : targetOf n = some target) (h : ¬ s.targetEmpty target = true)
    (hbusy : (s.scr i).equaliser.switch ≠ .idle) :
    selectPresetRule (i.val + 1) n s = (s.makePending i target, [0x00, 0x03] ++ u16 s.bandsFree) := by
  simp only [selectPresetRule, screenOf_code, hn, if_neg h, State.select, if_neg hbusy, State.bandsFree_makePending]
  rfl

end

/-- Settles O45: an EMPTY slot, the table on an IDLE screen, a target that waits, and fields out of range. -/
theorem selectPresetByTable : Obligations.SelectPresetByTable := by
  refine ⟨fun s q i target => ?_, fun s q n preset hrange hserved => ?_⟩
  · intro command hserved e g old new free reply refusal put crossing cutting waiting
    have htarget := targetOf_code (target := target)
    refine ⟨fun hempty => ?_, fun hheld hidle => ?_, fun hheld hbusy => ?_⟩
    · exact exec_served_of rfl hserved (selectPresetRule_empty htarget (State.targetEmpty_iff.mpr hempty))
    · have hfull : ¬ s.beginService.targetEmpty target = true := fun h => by
        obtain ⟨p, hp, hnone⟩ := State.targetEmpty_iff.mp h
        exact hheld p hp hnone
      have hrule := selectPresetRule_idle (s := s.beginService) (i := i) htarget hfull hidle
      by_cases hsame : target = e.active
      · rw [if_pos hsame]
        exact exec_served_of rfl hserved (hrule.trans (if_pos hsame))
      · have hrule := hrule.trans (if_neg hsame)
        rw [if_neg hsame]
        by_cases hwhole : new ≤ free
        · rw [if_pos hwhole]
          refine (exec_served_of rfl hserved (hrule.trans (if_pos hwhole))).trans ?_
          rw [State.startCrossfade_eq, State.put_nil]
          rfl
        · have hrule := hrule.trans (if_neg hwhole)
          rw [if_neg hwhole]
          by_cases honce : new ≤ free + old
          · rw [if_pos honce]
            refine (exec_served_of rfl hserved (hrule.trans (if_pos honce))).trans ?_
            rw [State.startCut_eq, State.put_nil]
            rfl
          · rw [if_neg honce]
            exact exec_served_of rfl hserved (hrule.trans (if_neg honce))
    · have hfull : ¬ s.beginService.targetEmpty target = true := fun h => by
        obtain ⟨p, hp, hnone⟩ := State.targetEmpty_iff.mp h
        exact hheld p hp hnone
      refine (exec_served_of rfl hserved (selectPresetRule_waits (s := s.beginService) htarget hfull hbusy)).trans ?_
      rw [State.makePending_eq]
      rfl
  · exact exec_refused hserved rfl fun ⟨⟨h, h'⟩, h''⟩ => hrange ⟨h, h', h''⟩

end Sys2Proof.Machine
end

section

/-! # SET_METER and the close of an interval (O49) -/

namespace Sys2Proof.Machine

section

variable {s : State} {i : ScreenIx}

/-- A push leaves the newest entries of the window and the new one. -/
theorem pushWindow_eq {α : Type} {capacity : Nat} {w : List α} {x : α} (h : 1 ≤ capacity) :
    pushWindow capacity w x = (w ++ [x]).drop (w.length + 1 - capacity) := by
  rw [pushWindow, List.drop_append_of_le_length (by omega)]

theorem pushWindow_last {α : Type} {capacity : Nat} {w : List α} {x : α} (h : 1 ≤ capacity) :
    pushWindow capacity w x = (w ++ [x]).drop ((w ++ [x]).length - capacity) := by
  rw [pushWindow_eq h, List.length_append, List.length_singleton]

theorem Meters.totalEnergy_eq {m : Meters} :
    m.totalEnergy =
      m.accumulators[(0 : Bus)] + m.accumulators[(1 : Bus)] + m.accumulators[(2 : Bus)] + m.accumulators[(4 : Bus)] +
        m.accumulators[(5 : Bus)] + m.accumulators[(6 : Bus)] + m.accumulators[(7 : Bus)] := by
  have hbuses : List.finRange 8 = [0, 1, 2, 3, 4, 5, 6, 7] := rfl
  have hlfe (b : Bus) : (b = busLFE) = (b = 3) := rfl
  simp only [Meters.totalEnergy, hbuses, hlfe, List.map_cons, List.map_nil, List.sum_cons, List.sum_nil, Fin.reduceEq,
    if_false, if_true, Nat.add_zero, Nat.zero_add, Nat.add_assoc]

theorem Meters.block_eq {m : Meters} {lane : Vector (List Int) 8} {clips : Vector Bool 8} :
    m.block lane clips =
      { m with
        accumulators := Vector.ofFn (fun b : Fin 8 => m.accumulators[b] + (lane[b].map (fun y => (y * y).toNat)).sum),
        clipHistories := Vector.ofFn (fun b : Fin 8 =>
          (m.clipHistories[b] ++ [clips[b]]).drop (m.clipHistories[b].length + 1 - 100)),
        boundaryCount := m.boundaryCount + 1 } := by
  simp only [Meters.block, pushWindow_eq (capacity := 100) (by decide)]
  rfl

theorem Meters.clipHistories_close {m : Meters} : m.close.clipHistories = m.clipHistories := rfl

theorem Meters.ring_close {m : Meters} (h : 1 ≤ m.window) :
    m.close.ring = (m.ring ++ [m.totalEnergy]).drop ((m.ring ++ [m.totalEnergy]).length - m.window) := pushWindow_last h

theorem Meters.busWindows_close {m : Meters} {b : Bus} :
    m.close.busWindows[b] =
      (m.busWindows[b] ++ [m.accumulators[b]]).drop ((m.busWindows[b] ++ [m.accumulators[b]]).length - 100) := by
  rw [← pushWindow_last (by decide)]
  exact Vector.getElem_ofFn _

theorem Meters.busLevels_close {m : Meters} {b : Bus} :
    m.close.busLevels[b] = levelOf m.close.busWindows[b].sum m.close.busWindows[b].length := Vector.getElem_ofFn _

theorem Meters.clipCounts_close {m : Meters} {b : Bus} :
    m.close.clipCounts[b] = (m.close.clipHistories[b].filter (fun c => c)).length := Vector.getElem_ofFn _

/-- The meters that take a block and close. -/
theorem Meters.close_block {m m' : Meters} {lane : Vector (List Int) 8} {clips : Vector Bool 8}
    (h : m' = (m.block lane clips).close) :
    let energyOf (b : Bus) : Nat := m.accumulators[b] + (lane[b].map (fun y => (y * y).toNat)).sum
    let last {α : Type} (n : Nat) (l : List α) : List α := l.drop (l.length - n)
    m'.boundaryCount = 0 ∧ (∀ b : Bus, m'.accumulators[b] = 0) ∧
      (1 ≤ m.window →
        m'.ring = last m.window (m.ring ++
          [energyOf 0 + energyOf 1 + energyOf 2 + energyOf 4 + energyOf 5 + energyOf 6 + energyOf 7])) ∧
      (∀ b : Bus, m'.busWindows[b] = last 100 (m.busWindows[b] ++ [energyOf b])) ∧
      m'.totalIntervals = m'.ring.length ∧ m'.totalLevel = levelOf m'.ring.sum m'.ring.length ∧
      (∀ b : Bus, m'.busLevels[b] = levelOf m'.busWindows[b].sum m'.busWindows[b].length ∧
        m'.clipCounts[b] = (m'.clipHistories[b].filter (fun c => c)).length) ∧
      m'.window = m.window ∧ m'.calibration = m.calibration := by
  subst h
  intro energyOf last
  have haccumulator (b : Bus) : (m.block lane clips).accumulators[b] = energyOf b := by
    rw [Fin.getElem_fin, Meters.block, Vector.getElem_ofFn]
    rfl
  refine ⟨rfl, fun b => Vector.getElem_replicate _, fun hwindow => ?_, fun b => ?_, rfl, rfl,
    fun b => ⟨Meters.busLevels_close, Meters.clipCounts_close⟩, rfl, rfl⟩
  · refine (Meters.ring_close (m := m.block lane clips) hwindow).trans ?_
    rw [Meters.totalEnergy_eq]
    simp only [haccumulator]
    rfl
  · refine (Meters.busWindows_close (m := m.block lane clips)).trans ?_
    rw [haccumulator]
    rfl

/-! ### The boundary's close (R90) -/

theorem State.boundary_of_close (h : 9 ≤ (s.scr i).meters.boundaryCount) :
    s.boundary i = (s.beforeClose i).closeInterval i := by
  have hcount : 10 ≤ ((s.beforeClose i).scr i).meters.boundaryCount := by
    rw [State.meters_beforeClose]
    exact Nat.succ_le_succ h
  rw [State.boundary, if_pos hcount]

theorem State.boundary_of_no_close (h : (s.scr i).meters.boundaryCount < 9) : s.boundary i = s.beforeClose i := by
  have hcount : ¬ 10 ≤ ((s.beforeClose i).scr i).meters.boundaryCount := by
    rw [State.meters_beforeClose]
    exact Nat.not_le.mpr (Nat.succ_lt_succ h)
  rw [State.boundary, if_neg hcount]

theorem State.lane_boundary : ((s.boundary i).scr i).lane = ((s.gained i).1.scr i).lane := by
  rcases Nat.lt_or_ge (s.scr i).meters.boundaryCount 9 with h | h
  · rw [State.boundary_of_no_close h, State.lane_beforeClose]
  · obtain ⟨_, _, _, hclose, _⟩ := State.scr_closeInterval (s := s.beforeClose i) (i := i)
    have hlane : (((s.beforeClose i).closeInterval i).scr i).lane = ((s.beforeClose i).scr i).lane := by
      rw [hclose]
    rw [State.boundary_of_close h, hlane, State.lane_beforeClose]

/-- The meters after a boundary that closes an interval. -/
theorem State.meters_of_close (h : 9 ≤ (s.scr i).meters.boundaryCount) :
    ((s.boundary i).scr i).meters = ((s.scr i).meters.block ((s.boundary i).scr i).lane (s.gained i).2).close := by
  obtain ⟨_, _, _, hclose, _⟩ := State.scr_closeInterval (s := s.beforeClose i) (i := i)
  have hmeters : (((s.beforeClose i).closeInterval i).scr i).meters = ((s.beforeClose i).scr i).meters.close := by
    rw [hclose]
  rw [State.lane_boundary, State.boundary_of_close h, hmeters, State.meters_beforeClose]

theorem State.meters_of_no_close (h : (s.scr i).meters.boundaryCount < 9) :
    ((s.boundary i).scr i).meters = (s.scr i).meters.block ((s.boundary i).scr i).lane (s.gained i).2 := by
  rw [State.lane_boundary, State.boundary_of_no_close h, State.meters_beforeClose]

/-! ### The count of clip blocks (R62) -/

theorem State.clipBlocks_postAlarm {id : AlarmId} {p : AlarmPost} :
    ((s.postAlarm i id p).scr i).live.clipBlocks = (s.scr i).live.clipBlocks := by
  cases p <;> simp [State.postAlarm]

theorem State.clipBlocks_evaluateAlarm {id : AlarmId} :
    ((s.evaluateAlarm i id).scr i).live.clipBlocks = (s.scr i).live.clipBlocks := by
  unfold State.evaluateAlarm
  dsimp only
  split
  · simp
  · rw [State.clipBlocks_postAlarm]
    simp

theorem State.clipBlocks_evaluateAlarms :
    ((s.evaluateAlarms i).scr i).live.clipBlocks = (s.scr i).live.clipBlocks := by
  have hfold (ids : List AlarmId) (s : State) :
      ((ids.foldl (fun s id => s.evaluateAlarm i id) s).scr i).live.clipBlocks = (s.scr i).live.clipBlocks := by
    induction ids generalizing s with
    | nil => rfl
    | cons id rest ih => rw [List.foldl_cons, ih, State.clipBlocks_evaluateAlarm]
  rw [State.evaluateAlarms, hfold]
  simp [State.readStream]

theorem State.clipBlocks_closeInterval :
    ((s.closeInterval i).scr i).live.clipBlocks = (s.scr i).live.clipBlocks := by
  obtain ⟨g, hguard, -⟩ := State.scr_evaluateGuard (s := (s.modMeters i Meters.close).evaluateAlarms i) (i := i)
  rw [State.closeInterval, hguard]
  dsimp only
  rw [State.clipBlocks_evaluateAlarms]
  simp

theorem State.clipBlocks_gained :
    ((s.gained i).1.scr i).live.clipBlocks =
      if ∃ b : Fin 8, (s.gained i).2[b] = true then min ((s.scr i).live.clipBlocks + 1) 4294967295
      else (s.scr i).live.clipBlocks := by
  have hbefore := (Work.equalised (s := s) (i := i)).screen.clipBlocks
  unfold State.gained
  dsimp only
  rw [State.gainStage_eq]
  dsimp only
  rw [State.scr_modScreen_same]
  simp only [Fin.getElem_fin, Vector.getElem_ofFn, Fin.eta]
  rw [← hbefore]
  split <;> rfl

theorem State.clipBlocks_beforeClose :
    ((s.beforeClose i).scr i).live.clipBlocks = ((s.gained i).1.scr i).live.clipBlocks := by
  rw [Work.afterMeters.screen.clipBlocks, State.metered, State.meterBlock, State.scr_modMeters, if_pos rfl]
  dsimp only
  rw [Work.switchProgress.screen.clipBlocks]

theorem State.clipBlocks_boundary :
    ((s.boundary i).scr i).live.clipBlocks = ((s.gained i).1.scr i).live.clipBlocks := by
  rcases Nat.lt_or_ge (s.scr i).meters.boundaryCount 9 with h | h
  · rw [State.boundary_of_no_close h, State.clipBlocks_beforeClose]
  · rw [State.boundary_of_close h, State.clipBlocks_closeInterval, State.clipBlocks_beforeClose]

end

/-- Settles O49: the request, the close, the meters' block, and the boundary. -/
theorem meterRequestAndClose : Obligations.MeterRequestAndClose := by
  refine ⟨fun s q i window calibration hlow hhigh hserved => ?_, fun s i hcount => ?_, fun m lane clips => Meters.block_eq,
    fun s i => ?_⟩
  · intro m held c
    refine exec_served_of rfl hserved ?_
    simp only [ruleOf, setMeterRule, screenOf_code, if_pos (And.intro hlow hhigh)]
    rfl
  · have hdue : (s.scr i).closeDue = true := decide_eq_true (Nat.succ_le_succ hcount)
    refine ⟨s.boundary i, congrArg Host.Outcome.next (if_pos hdue), ?_⟩
    exact Meters.close_block (State.meters_of_close hcount)
  · refine ⟨s.boundary i, rfl, (s.gained i).2, fun b => ?_, State.clipBlocks_boundary.trans State.clipBlocks_gained,
      State.meters_of_no_close⟩
    rcases Nat.lt_or_ge (s.scr i).meters.boundaryCount 9 with h | h
    · rw [State.meters_of_no_close h, Meters.block_eq, Fin.getElem_fin, Vector.getElem_ofFn]
    · rw [State.meters_of_close h, Meters.clipHistories_close, Meters.block_eq, Fin.getElem_fin, Vector.getElem_ofFn]

end Sys2Proof.Machine
end

section

/-! # The instances at a close (O31) -/

namespace Sys2Proof.Machine

section

variable {s : State} {i : ScreenIx} {set : AlarmSettings} {x : Alarm} {condition : Bool}

/-! ### One alarm at one close (R107 to R112) -/

/-- A RAISED alarm that reminds. -/
theorem remindStep_eq :
    remindStep set x =
      if x.acknowledged = false ∧ (set.remindLimit = 15 ∨ x.reminders < set.remindLimit) then
        if set.remindInterval * 100 ≤ x.remindCount + 1 then
          { alarm := { x with remindCount := 0, reminders := min 15 (x.reminders + 1) },
            post := some (.remind (x.reminders + 1)) }
        else { alarm := { x with remindCount := x.remindCount + 1 }, post := none }
      else { alarm := x, post := none } := by
  by_cases h : x.acknowledged = false ∧ (set.remindLimit = 15 ∨ x.reminders < set.remindLimit)
  · have hno : ¬ (x.acknowledged = true ∨ ¬ (set.remindLimit = 15 ∨ x.reminders < set.remindLimit)) := by
      rintro (hack | hlimit)
      · exact Bool.noConfusion (hack.symm.trans h.1)
      · exact hlimit h.2
    rw [remindStep, if_neg hno, if_pos h]
  · have hyes : x.acknowledged = true ∨ ¬ (set.remindLimit = 15 ∨ x.reminders < set.remindLimit) := by
      refine Classical.byContradiction fun hnone => ?_
      rw [not_or, Bool.not_eq_true, Classical.not_not] at hnone
      exact h hnone
    rw [remindStep, if_pos hyes, if_neg h]

/-- A raise that ends. -/
theorem endRaise_eq :
    endRaise set x =
      if set.latch = true ∧ x.acknowledged = false then
        { alarm := { state := .latched, acknowledged := false, dwell := 0, remindCount := 0, reminders := 0 },
          post := some .latched }
      else
        { alarm := { state := .idle, acknowledged := false, dwell := 0, remindCount := 0, reminders := 0 },
          post := some .cleared } := by
  simp only [endRaise, Bool.and_eq_true, Bool.not_eq_true']
  rfl

/-- The transition table before R109, with R109 to R112. -/
theorem Alarm.move_eq :
    x.move set condition =
      let raiseLength := set.raiseDwell / 10
      let clearLength := set.clearDwell / 10
      let fresh : AlarmMove :=
        { alarm := { state := .raised, acknowledged := false, dwell := 0, remindCount := 0, reminders := 0 },
          post := some .raised }
      let stay (y : Alarm) : AlarmMove := { alarm := y, post := none }
      let ended : AlarmMove :=
        if set.latch = true ∧ x.acknowledged = false then
          { alarm := { state := .latched, acknowledged := false, dwell := 0, remindCount := 0, reminders := 0 },
            post := some .latched }
        else
          { alarm := { state := .idle, acknowledged := false, dwell := 0, remindCount := 0, reminders := 0 },
            post := some .cleared }
      let reminded (y : Alarm) : AlarmMove :=
        if y.acknowledged = false ∧ (set.remindLimit = 15 ∨ y.reminders < set.remindLimit) then
          if set.remindInterval * 100 ≤ y.remindCount + 1 then
            { alarm := { y with remindCount := 0, reminders := min 15 (y.reminders + 1) },
              post := some (.remind (y.reminders + 1)) }
          else stay { y with remindCount := y.remindCount + 1 }
        else stay y
      match x.state with
      | .idle =>
        if condition then if raiseLength = 0 then fresh else stay { x with state := .pending, dwell := 0 } else stay x
      | .pending =>
        if condition then if raiseLength ≤ x.dwell + 1 then fresh else stay { x with dwell := x.dwell + 1 }
        else stay { x with state := .idle, dwell := 0 }
      | .raised =>
        if condition then reminded x
        else if clearLength = 0 then ended else stay { x with state := .clearing, dwell := 0 }
      | .clearing =>
        if condition then reminded { x with state := .raised, dwell := 0 }
        else if clearLength ≤ x.dwell + 1 then ended else stay { x with dwell := x.dwell + 1 }
      | .latched =>
        if condition then if raiseLength = 0 then fresh else stay { x with state := .pending, dwell := 0 } else stay x := by
  unfold Alarm.move
  cases x.state <;> cases condition
  case raised.true | clearing.true => exact remindStep_eq
  case raised.false | clearing.false =>
    dsimp only
    rw [endRaise_eq]
    rfl
  all_goals rfl

/-- What a post says of the alarm behind it. -/
def Alarm.Announced (set : AlarmSettings) (x : Alarm) (m : AlarmMove) : Prop :=
  (m.post = some .raised → m.alarm = freshRaise.alarm) ∧
  (m.post = some .cleared ∨ m.post = some .latched →
    m.alarm =
      { Alarm.reset with state := if set.latch = true ∧ x.acknowledged = false then .latched else .idle }) ∧
  (∀ n, m.post = some (.remind n) →
    n = x.reminders + 1 ∧
      m.alarm =
        { x with
          state := .raised, dwell := if x.state = .raised then x.dwell else 0, remindCount := 0, reminders := min 15 n })

theorem Alarm.Announced.silent {y : Alarm} : x.Announced set { alarm := y, post := none } :=
  ⟨nofun, nofun, nofun⟩

theorem Alarm.Announced.fresh : x.Announced set freshRaise := ⟨fun _ => rfl, nofun, nofun⟩

theorem Alarm.Announced.begin : x.Announced set (beginRaise set x) := by
  unfold beginRaise
  split
  · exact .fresh
  · exact .silent

theorem Alarm.Announced.ended : x.Announced set (endRaise set x) := by
  rw [endRaise_eq]
  split
  next h => exact ⟨nofun, fun _ => by rw [if_pos h]; rfl, nofun⟩
  next h => exact ⟨nofun, fun _ => by rw [if_neg h]; rfl, nofun⟩

theorem Alarm.Announced.remind {y : Alarm}
    (hy : y = { x with state := .raised, dwell := if x.state = .raised then x.dwell else 0 }) :
    x.Announced set (remindStep set y) := by
  rw [remindStep_eq]
  split
  · split
    · refine ⟨nofun, nofun, fun n hn => ?_⟩
      subst hy
      obtain rfl : x.reminders + 1 = n := by simpa using hn
      exact ⟨rfl, rfl⟩
    · exact .silent
  · exact .silent

/-- A move's post says what has become of the alarm. -/
theorem Alarm.announced_move : x.Announced set (x.move set condition) := by
  unfold Alarm.move
  cases hstate : x.state <;> cases condition <;> dsimp only
  case idle.false | pending.false | latched.false => exact .silent
  case idle.true | latched.true => exact .begin
  case pending.true =>
    split
    · exact .fresh
    · exact .silent
  case raised.false | clearing.false =>
    split
    · exact .ended
    · exact .silent
  case raised.true => exact .remind (by rw [if_pos hstate, ← hstate])
  case clearing.true => exact .remind (by rw [hstate, if_neg nofun])

/-! ### Closes with a condition that holds (R108) -/

theorem Alarm.afterCloses_succ {n : Nat} : Alarm.afterCloses set (n + 1) x = ((Alarm.afterCloses set n x).move set true).alarm := by
  induction n generalizing x with
  | zero => rfl
  | succ n ih => rw [Alarm.afterCloses, ih, Alarm.afterCloses]

theorem Alarm.move_idle (h : x.state = .idle) : x.move set true = beginRaise set x := by
  unfold Alarm.move
  rw [h]

theorem Alarm.move_pending {n : Nat} :
    Alarm.move set true { x with state := .pending, dwell := n } =
      if set.raiseLength ≤ n + 1 then freshRaise
      else { alarm := { x with state := .pending, dwell := n + 1 }, post := none } := rfl

theorem Alarm.afterCloses_pending {n : Nat} (hidle : x.state = .idle) (h : n + 1 ≤ set.raiseLength) :
    Alarm.afterCloses set (n + 1) x = { x with state := .pending, dwell := n } := by
  induction n with
  | zero =>
    have hlength : set.raiseLength ≠ 0 := by omega
    rw [Alarm.afterCloses_succ, Alarm.afterCloses, Alarm.move_idle hidle, beginRaise, if_neg hlength]
  | succ n ih => rw [Alarm.afterCloses_succ, ih (by omega), Alarm.move_pending, if_neg (by omega)]

theorem Alarm.afterCloses_raised (hidle : x.state = .idle) :
    Alarm.afterCloses set (set.raiseLength + 1) x = freshRaise.alarm := by
  cases hlength : set.raiseLength with
  | zero => rw [Alarm.afterCloses_succ, Alarm.afterCloses, Alarm.move_idle hidle, beginRaise, if_pos hlength]
  | succ n =>
    rw [Alarm.afterCloses_succ, Alarm.afterCloses_pending hidle (by omega), Alarm.move_pending, if_pos (by omega)]

/-! ### The condition of an alarm (R103 to R106) -/

variable {c c' : Screen} {id id' : AlarmId}

/-- A condition reads of the instances its own only, and nothing of the guard and the counters. -/
theorem Screen.condition_congr {a : Alarms} {live : Counters} {g : GuardBlock}
    (hc : c' = { c with alarms := a, live := live, guard := g }) (hget : a.get id = c.alarms.get id)
    (hsettings : ∀ k, a.settings k = c.alarms.settings k) : c'.condition id = c.condition id := by
  subst hc
  cases id with
  | overLevel =>
    have hset : a.overSettings = c.alarms.overSettings := hsettings .overLevel
    have hstate : a.overLevel = c.alarms.overLevel := hget
    simp only [Screen.condition, Screen.overCondition, Screen.totalClass, hset, hstate]
    rfl
  | clip b =>
    have hset : a.clipSettings = c.alarms.clipSettings := hsettings .clip
    simp only [Screen.condition, Screen.clipCondition, hset]
  | silence b =>
    have hset : a.silenceSettings = c.alarms.silenceSettings := hsettings .silence
    simp only [Screen.condition, Screen.silenceCondition, hset]
    rfl
  | stream => rfl

theorem Alarms.get_put_ne {a : Alarms} (h : id ≠ id') : (a.put id' x).get id = a.get id := by
  cases id <;> cases id'
  case clip.clip b b' => exact Vector.getElem_set_ne b'.isLt b.isLt fun heq => h (congrArg AlarmId.clip (Fin.ext heq.symm))
  case silence.silence b b' =>
    exact Vector.getElem_set_ne b'.isLt b.isLt fun heq => h (congrArg AlarmId.silence (Fin.ext heq.symm))
  case overLevel.overLevel | stream.stream => exact absurd rfl h
  all_goals rfl

theorem Alarms.settings_put {a : Alarms} {k : AlarmKind} : (a.put id x).settings k = a.settings k := by
  cases id <;> cases k <;> rfl

theorem AlarmId.all_nodup : AlarmId.all.Nodup := by decide

theorem AlarmId.mem_all : id ∈ AlarmId.all := by
  cases id <;> simp [AlarmId.all, AlarmKind.ids]

theorem levelClass_above {spl : Int} : levelClass set spl = .above ↔ set.threshold < spl := by
  unfold levelClass
  split
  · simp [*]
  · split <;> simp [*]

theorem levelClass_not_below {spl : Int} :
    levelClass set spl ≠ .below ↔ set.threshold < spl ∨ set.threshold - set.hysteresis < spl := by
  unfold levelClass
  split
  · simp [*]
  · split <;> simp [*]

theorem Screen.overCondition_iff :
    c.condition .overLevel = true ↔
      if c.alarms.overLevel.state = .raised ∨ c.alarms.overLevel.state = .clearing then
        c.alarms.overSettings.threshold < c.meters.totalLevel + c.meters.calibration ∨
          c.alarms.overSettings.threshold - c.alarms.overSettings.hysteresis < c.meters.totalLevel + c.meters.calibration
      else c.alarms.overSettings.threshold < c.meters.totalLevel + c.meters.calibration := by
  unfold Screen.condition Screen.overCondition
  cases hstate : c.alarms.overLevel.state <;> dsimp only <;> rw [decide_eq_true_eq]
  case raised => rw [if_pos (.inl rfl)]; exact levelClass_not_below
  case clearing => rw [if_pos (.inr rfl)]; exact levelClass_not_below
  all_goals rw [if_neg (by rintro (h | h) <;> cases h)]; exact levelClass_above

theorem Screen.clipCondition_iff {b : Bus} :
    c.condition (.clip b) = true ↔ c.alarms.clipSettings.threshold ≤ c.meters.clipCounts[b] := decide_eq_true_iff

theorem Screen.silenceCondition_iff {b : Bus} :
    c.condition (.silence b) = true ↔
      c.decoder.mask.getLsbD b.val = true ∧
        c.meters.busLevels[b] + c.meters.calibration < c.alarms.silenceSettings.threshold ∧
        (c.intake.slot c.intake.selection).state = .playing ∧ c.clock.state = .running ∧ c.gain.mutes[b].target = 0 ∧
        0 < c.gain.faderPosition := by
  simp only [Screen.condition, Screen.silenceCondition, Bool.and_eq_true, decide_eq_true_eq, and_assoc]
  rfl

theorem Screen.streamCondition_iff :
    c.condition .stream = true ↔ c.clock.state = .running ∧ (c.intake.slot c.intake.selection).state ≠ .playing := by
  simp only [Screen.condition, Screen.streamCondition, Bool.and_eq_true, decide_eq_true_eq]
  rfl

/-! ### The 18 instances in order (R102) -/

/-- Each alarm moves from the screen as the close found it. -/
theorem State.evaluateAlarms_fold {ids : List AlarmId} (hnodup : ids.Nodup) :
    ∃ a live,
      (ids.foldl (fun s id => s.evaluateAlarm i id) s).scr i = { s.scr i with alarms := a, live := live } ∧
      (∀ k, a.settings k = (s.scr i).alarms.settings k) ∧
      ∀ id, a.get id = if id ∈ ids then ((s.scr i).alarmMove id).alarm else (s.scr i).alarms.get id := by
  induction ids generalizing s with
  | nil => exact ⟨(s.scr i).alarms, (s.scr i).live, rfl, fun _ => rfl, fun _ => rfl⟩
  | cons id rest ih =>
    obtain ⟨hid, hrest⟩ := List.nodup_cons.mp hnodup
    obtain ⟨live, h⟩ := State.scr_evaluateAlarm (s := s) (i := i) (id := id)
    obtain ⟨a', live', h', hsettings, hget⟩ := ih (s := s.evaluateAlarm i id) hrest
    rw [List.foldl_cons]
    refine ⟨a', live', by rw [h', h], fun k => ?_, fun id' => ?_⟩
    · rw [hsettings, h]
      exact Alarms.settings_put
    · have hput : id' ≠ id →
          ((s.scr i).alarms.put id ((s.scr i).alarmMove id).alarm).get id' = (s.scr i).alarms.get id' := Alarms.get_put_ne
      rw [hget]
      by_cases hrest' : id' ∈ rest
      · have hne : id' ≠ id := fun heq => hid (heq ▸ hrest')
        have hcondition : ((s.evaluateAlarm i id).scr i).condition id' = (s.scr i).condition id' :=
          Screen.condition_congr (a := (s.scr i).alarms.put id ((s.scr i).alarmMove id).alarm) (live := live)
            (g := (s.scr i).guard) h (hput hne) fun _ => Alarms.settings_put
        rw [if_pos hrest', if_pos (List.mem_cons_of_mem _ hrest'), Screen.alarmMove, hcondition, h]
        dsimp only
        rw [hput hne, Alarms.settings_put]
        rfl
      · rw [if_neg hrest', h]
        by_cases heq : id' = id
        · subst heq
          rw [if_pos List.mem_cons_self]
          exact Alarms.get_put
        · rw [if_neg (by rw [List.mem_cons, not_or]; exact ⟨heq, hrest'⟩)]
          exact hput heq

/-! ### The close of a boundary (R90, R102) -/

theorem State.alarms_gained : ((s.gained i).1.scr i).alarms = (s.scr i).alarms := by
  obtain ⟨lane, live, h⟩ := State.scr_gained (s := s) (i := i)
  have hbefore := (Work.equalised (s := s) (i := i)).screen.alarms
  rw [h]
  dsimp only
  exact hbefore

theorem State.alarms_beforeClose : ((s.beforeClose i).scr i).alarms = (s.scr i).alarms := by
  rw [Work.afterMeters.screen.alarms, State.metered, State.meterBlock, State.scr_modMeters, if_pos rfl]
  dsimp only
  rw [Work.switchProgress.screen.alarms, State.alarms_gained]

/-- The screen of a close as the monitor finds it: the meters published, the playing slot read. -/
def Screen.seenAtClose (c : Screen) : Screen :=
  { c with
    meters := c.meters.close,
    alarms := { c.alarms with streamState := c.playing.state, streamLetter := c.intake.selection } }

theorem State.scr_readStream : ((s.modMeters i Meters.close).readStream i).scr i = (s.scr i).seenAtClose := by
  simp [State.readStream]
  rfl

theorem Screen.get_seenAtClose : c.seenAtClose.alarms.get id = c.alarms.get id := by
  cases id <;> rfl

theorem Screen.settings_seenAtClose {k : AlarmKind} : c.seenAtClose.alarms.settings k = c.alarms.settings k := by
  cases k <;> rfl

/-- A close leaves of the screen what the monitor found, the instances moved, the guard stepped and the raises counted. -/
theorem State.closeInterval_moves :
    ∃ a live g,
      (s.closeInterval i).scr i = { (s.scr i).seenAtClose with alarms := a, live := live, guard := g } ∧
      (∀ k, a.settings k = (s.scr i).alarms.settings k) ∧
      ∀ id, a.get id = ((s.scr i).seenAtClose.alarmMove id).alarm := by
  obtain ⟨a, live, hfold, hsettings, hget⟩ :=
    State.evaluateAlarms_fold (s := (s.modMeters i Meters.close).readStream i) (i := i) AlarmId.all_nodup
  obtain ⟨g, hguard, -⟩ := State.scr_evaluateGuard (s := (s.modMeters i Meters.close).evaluateAlarms i) (i := i)
  rw [State.scr_readStream] at hfold hsettings hget
  refine ⟨a, live, g, ?_, fun k => (hsettings k).trans Screen.settings_seenAtClose, fun id => ?_⟩
  · rw [State.closeInterval, hguard, State.evaluateAlarms, hfold]
  · exact (hget id).trans (if_pos AlarmId.mem_all)

theorem State.published_eq : s.published i = ((s.beforeClose i).scr i).seenAtClose := State.scr_readStream

theorem State.get_published : (s.published i).alarms.get id = (s.scr i).alarms.get id := by
  rw [State.published_eq, Screen.get_seenAtClose, State.alarms_beforeClose]

theorem State.settings_published {k : AlarmKind} : (s.published i).alarms.settings k = (s.scr i).alarms.settings k := by
  rw [State.published_eq, Screen.settings_seenAtClose, State.alarms_beforeClose]

/-- The instances after a boundary that closes an interval. -/
theorem State.boundary_moves (h : 9 ≤ (s.scr i).meters.boundaryCount) :
    ∃ a live g,
      (s.boundary i).scr i = { s.published i with alarms := a, live := live, guard := g } ∧
      (∀ k, a.settings k = (s.scr i).alarms.settings k) ∧
      ∀ id, a.get id = ((s.published i).alarmMove id).alarm := by
  obtain ⟨a, live, g, hscr, hsettings, hget⟩ := State.closeInterval_moves (s := s.beforeClose i) (i := i)
  rw [← State.published_eq] at hscr hget
  rw [State.alarms_beforeClose] at hsettings
  exact ⟨a, live, g, by rw [State.boundary_of_close h, hscr], hsettings, hget⟩

/-- A post at a close is the announcement of what becomes of the alarm. -/
theorem State.announced_boundary {p : AlarmPost} (h : s.alarmPost i id = some p) :
    ∃ m, m.post = some p ∧ ((s.boundary i).scr i).alarms.get id = m.alarm ∧
      ((s.scr i).alarms.get id).Announced ((s.scr i).alarms.settings id.kind) m := by
  unfold State.alarmPost at h
  split at h
  next hdue =>
    obtain ⟨a, live, g, hscr, -, hget⟩ := State.boundary_moves (Nat.le_of_succ_le_succ (of_decide_eq_true hdue))
    refine ⟨(s.published i).alarmMove id, h, ?_, ?_⟩
    · rw [hscr]
      exact hget id
    · rw [Screen.alarmMove, State.get_published, State.settings_published]
      exact Alarm.announced_move
  next => cases h

/-- A counter moves behind a post as before it. -/
theorem State.modLive_post {what : EventType} {detail : List Byte} {f : Counters → Counters} :
    (s.post what i detail).modLive i f =
      { s.post what i detail with screens := s.screens.set i { s.scr i with live := f (s.scr i).live } } := by
  obtain ⟨_, _, hpost⟩ := State.postAt_frame (s := s) (what := what) (screen := some i)
    (position := some (s.scr i).clock.position) (detail := detail)
  rw [State.post_eq_postAt, hpost]
  rfl

/-- An alarm's evaluation: it takes its move's place and posts behind it (R102, R108, R113). -/
theorem State.evaluateAlarm_eq :
    s.evaluateAlarm i id =
      let c := s.scr i
      let m := c.alarmMove id
      let moved : State := { s with screens := s.screens.set i { c with alarms := c.alarms.put id m.alarm } }
      let detail : List Byte :=
        [BitVec.ofNat 8 id.kind.code,
          match id with | .clip b => BitVec.ofNat 8 b.val | .silence b => BitVec.ofNat 8 b.val | _ => 0xFF,
          BitVec.ofNat 8 m.alarm.state.code, BitVec.ofNat 8 (boolCode m.alarm.acknowledged)] ++ c.reading id
      match m.post with
      | none => moved
      | some .raised =>
        { moved.post .alarmRaised i detail with
          screens := moved.screens.set i
            { moved.scr i with live := { c.live with alarmRaises := min (c.live.alarmRaises + 1) 4294967295 } } }
      | some .cleared => moved.post .alarmCleared i detail
      | some .latched => moved.post .alarmLatched i detail
      | some (.remind n) => moved.post .alarmRemind i (detail ++ u16 n) := by
  obtain ⟨u, hu⟩ : ∃ u : State, u = s.modAlarms i fun a => a.put id ((s.scr i).alarmMove id).alarm := ⟨_, rfl⟩
  have hscr : u.scr i = { s.scr i with alarms := (s.scr i).alarms.put id ((s.scr i).alarmMove id).alarm } := by
    rw [hu]
    simp
  have hdetail : (u.scr i).alarmDetail id =
      [BitVec.ofNat 8 id.kind.code,
        match id with | .clip b => BitVec.ofNat 8 b.val | .silence b => BitVec.ofNat 8 b.val | _ => 0xFF,
        BitVec.ofNat 8 ((s.scr i).alarmMove id).alarm.state.code,
        BitVec.ofNat 8 (boolCode ((s.scr i).alarmMove id).alarm.acknowledged)] ++ (s.scr i).reading id := by
    rw [hscr, Screen.alarmDetail]
    dsimp only
    rw [Alarms.get_put, flag_eq]
    cases id <;> rfl
  unfold State.evaluateAlarm
  dsimp only
  rw [← hu]
  cases ((s.scr i).alarmMove id).post with
  | none => exact hu
  | some p =>
    cases p with
    | raised =>
      have hlive : (u.scr i).live = (s.scr i).live := by rw [hscr]
      change (u.post .alarmRaised i ((u.scr i).alarmDetail id)).modLive i
        (fun c => { c with alarmRaises := bumped c.alarmRaises }) = _
      rw [hdetail, State.modLive_post, hlive, hu]
      rfl
    | cleared =>
      change u.post .alarmCleared i ((u.scr i).alarmDetail id) = _
      rw [hdetail, hu]
      rfl
    | latched =>
      change u.post .alarmLatched i ((u.scr i).alarmDetail id) = _
      rw [hdetail, hu]
      rfl
    | remind n =>
      change u.post .alarmRemind i ((u.scr i).alarmDetail id ++ u16 n) = _
      rw [hdetail, hu]
      rfl

end

/-- Settles O31: the run of closes, the three rows, the close, the conditions, the table, and one evaluation. -/
theorem alarmEventsAtTheirClose : Obligations.AlarmEventsAtTheirClose := by
  refine ⟨fun set x hidle => ⟨fun n hn hle => ?_, Alarm.afterCloses_raised hidle⟩, fun s i id h => ?_, fun s i id h => ?_,
    fun s i id n h => ?_, fun s i hcount => ?_, fun c b => ?_, fun set x condition => ?_, fun s i id => ?_⟩
  · obtain ⟨m, rfl⟩ : ∃ m, n = m + 1 := ⟨n - 1, by omega⟩
    exact Alarm.afterCloses_pending hidle hle
  · obtain ⟨m, hpost, hget, hraised, -, -⟩ := State.announced_boundary h
    exact ⟨s.boundary i, congrArg Host.Outcome.next (if_pos h), hget.trans (hraised hpost)⟩
  · have hclear : (s.alarmPost i id).any AlarmPost.isClear = true := by
      rcases h with h | h <;> rw [h] <;> rfl
    refine ⟨s.boundary i, congrArg Host.Outcome.next (if_pos hclear), ?_⟩
    rcases h with h | h
    · obtain ⟨m, hpost, hget, -, hended, -⟩ := State.announced_boundary h
      exact hget.trans (hended (.inl hpost))
    · obtain ⟨m, hpost, hget, -, hended, -⟩ := State.announced_boundary h
      exact hget.trans (hended (.inr hpost))
  · have hremind : (s.alarmPost i id).any AlarmPost.isRemind = true := by
      rw [h]
      rfl
    obtain ⟨m, hpost, hget, -, -, hreminded⟩ := State.announced_boundary h
    obtain ⟨hn, hm⟩ := hreminded n hpost
    exact ⟨s.boundary i, congrArg Host.Outcome.next (if_pos hremind), hn, hget.trans hm⟩
  · have hdue : (s.scr i).closeDue = true := decide_eq_true (Nat.succ_le_succ hcount)
    obtain ⟨a, live, g, hscr, hsettings, hget⟩ := State.boundary_moves hcount
    refine ⟨s.boundary i, congrArg Host.Outcome.next (if_pos hdue), fun k => ?_, fun id => ?_⟩
    · rw [hscr]
      exact hsettings k
    · rw [hscr]
      refine (hget id).trans ?_
      have hcondition := Screen.condition_congr (c := s.published i) (id := id) (a := (s.scr i).alarms) (live := live) (g := g)
        rfl State.get_published.symm fun k => State.settings_published.symm
      rw [Screen.alarmMove, State.get_published, State.settings_published, ← hcondition]
  · exact ⟨Screen.overCondition_iff, Screen.clipCondition_iff, Screen.silenceCondition_iff, Screen.streamCondition_iff⟩
  · exact Alarm.move_eq
  · exact State.evaluateAlarm_eq

end Sys2Proof.Machine
end

section

/-! # The guard at a close (O32) -/

namespace Sys2Proof.Machine

section

variable {s : State} {i : ScreenIx} {c : Screen} {set : AlarmSettings}

/-- The guard of a screen after its evaluation (R122, R124). -/
def Screen.guardAfter (c : Screen) : GuardBlock :=
  if c.guard.enabled = false then c.guard
  else if c.guardReduces then c.countedGuard.stepDown
  else if c.guardReleases then c.countedGuard.stepUp
  else c.countedGuard

theorem State.guard_guardDownStep : ((s.guardDownStep i).scr i).guard = (s.scr i).guard.stepDown := by
  unfold State.guardDownStep
  dsimp only
  split <;> simp

theorem State.guard_guardUpStep : ((s.guardUpStep i).scr i).guard = (s.scr i).guard.stepUp := by
  unfold State.guardUpStep
  dsimp only
  split <;> simp

theorem State.guard_evaluateGuard : ((s.evaluateGuard i).scr i).guard = (s.scr i).guardAfter := by
  unfold State.evaluateGuard Screen.guardAfter
  dsimp only
  cases henabled : (s.scr i).guard.enabled
  · rw [if_neg Bool.false_ne_true, if_pos rfl]
  · rw [if_pos rfl, if_neg (by decide : ¬ true = false)]
    split
    · rw [State.guard_guardDownStep]
      simp
    · split
      · rw [State.guard_guardUpStep]
        simp
      · simp

/-- A step down posts GUARD DOWN unless the last one went down (R125). -/
theorem State.guardDownStep_eq :
    s.guardDownStep i =
      let moved : State := { s with screens := s.screens.set i { s.scr i with guard := (s.scr i).guard.stepDown } }
      if (s.scr i).guard.direction ≠ .down then
        moved.post .guardDown i
          (s16 (s.scr i).guard.stepDown.value ++ s16 ((s.scr i).meters.totalLevel + (s.scr i).meters.calibration))
      else moved := by
  have hdetail : ((s.modGuard i GuardBlock.stepDown).scr i).guardDetail =
      s16 (s.scr i).guard.stepDown.value ++ s16 ((s.scr i).meters.totalLevel + (s.scr i).meters.calibration) := by
    rw [State.modGuard, State.scr_modScreen_same]
    rfl
  unfold State.guardDownStep
  dsimp only
  rw [hdetail, ite_not]
  rfl

/-- A step up posts GUARD UP when the last one went down (R125). -/
theorem State.guardUpStep_eq :
    s.guardUpStep i =
      let moved : State := { s with screens := s.screens.set i { s.scr i with guard := (s.scr i).guard.stepUp } }
      if (s.scr i).guard.direction = .down then
        moved.post .guardUp i
          (s16 (s.scr i).guard.stepUp.value ++ s16 ((s.scr i).meters.totalLevel + (s.scr i).meters.calibration))
      else moved := by
  have hdetail : ((s.modGuard i GuardBlock.stepUp).scr i).guardDetail =
      s16 (s.scr i).guard.stepUp.value ++ s16 ((s.scr i).meters.totalLevel + (s.scr i).meters.calibration) := by
    rw [State.modGuard, State.scr_modScreen_same]
    rfl
  unfold State.guardUpStep
  dsimp only
  rw [hdetail]
  rfl

/-! ### The boundary that closes an interval -/

theorem State.evaluated_eq :
    ∃ a live, s.evaluated i = { s.published i with alarms := a, live := live } ∧
      ∀ k, a.settings k = (s.scr i).alarms.settings k := by
  obtain ⟨a, live, hfold, hsettings, -⟩ :=
    State.evaluateAlarms_fold (s := ((s.beforeClose i).modMeters i Meters.close).readStream i) (i := i) AlarmId.all_nodup
  exact ⟨a, live, hfold, fun k => (hsettings k).trans State.settings_published⟩

theorem Screen.guard_seenAtClose : c.seenAtClose.guard = c.guard := rfl

theorem State.guard_evaluated : (s.evaluated i).guard = (s.scr i).guard := by
  obtain ⟨a, live, h, -⟩ := State.evaluated_eq (s := s) (i := i)
  rw [h]
  dsimp only
  rw [State.published_eq, Screen.guard_seenAtClose, State.guard_beforeClose]

theorem State.overSettings_evaluated : (s.evaluated i).alarms.overSettings = (s.scr i).alarms.overSettings := by
  obtain ⟨a, live, h, hsettings⟩ := State.evaluated_eq (s := s) (i := i)
  rw [h]
  exact hsettings .overLevel

/-- A close leaves the screen as the guard finds it, but for the guard. -/
theorem State.scr_boundary_evaluated (h : 9 ≤ (s.scr i).meters.boundaryCount) :
    (s.boundary i).scr i = { s.evaluated i with guard := (s.evaluated i).guardAfter } := by
  rw [State.boundary_of_close h, State.closeInterval]
  obtain ⟨u, hu⟩ : ∃ u, u = ((s.beforeClose i).modMeters i Meters.close).evaluateAlarms i := ⟨_, rfl⟩
  have hevaluated : s.evaluated i = u.scr i := congrArg (State.scr · i) hu.symm
  obtain ⟨g, hguard, -⟩ := State.scr_evaluateGuard (s := u) (i := i)
  have hg : g = (u.scr i).guardAfter := by rw [← State.guard_evaluateGuard, hguard]
  rw [hevaluated, ← hu, hguard, hg]

/-! ### Counts and steps (R122, R124) -/

theorem levelClass_below {spl : Int} :
    levelClass set spl = .below ↔ ¬ set.threshold < spl ∧ spl ≤ set.threshold - set.hysteresis := by
  refine ⟨fun h => ?_, fun h => Classical.byContradiction fun hne => ?_⟩
  · have hnot := mt levelClass_not_below.mpr (not_not_intro h)
    omega
  · have hclass := levelClass_not_below.mp hne
    omega

theorem Screen.guardReduces_iff :
    c.guardReduces = true ↔
      c.guard.enabled = true ∧ c.alarms.overLevel.state = .raised ∧ c.totalClass = .above ∧
        c.countedGuard.stepTimer = c.guard.interval / 10 ∧ c.guard.floor < c.guard.value := by
  simp only [Screen.guardReduces, GuardBlock.reduces, Bool.and_eq_true, decide_eq_true_eq, and_assoc]
  rfl

theorem Screen.guardReleases_iff :
    c.guardReleases = true ↔
      c.guard.enabled = true ∧ ¬ c.guardReduces = true ∧ c.countedGuard.releaseCount = c.guard.release / 10 ∧
        c.guard.value < 0 ∧ c.countedGuard.stepTimer = c.guard.interval / 10 := by
  simp only [Screen.guardReleases, GuardBlock.releases, Bool.and_eq_true, decide_eq_true_eq, and_assoc, Bool.not_eq_true',
    Bool.not_eq_true]
  rfl

/-- A guard that reduces. -/
theorem Screen.guardAfter_of_reduces (h : c.guardReduces = true) :
    c.guardAfter =
      { c.guard with
        value := max c.guard.floor (c.guard.value - c.guard.step), stepTimer := 0, releaseCount := 0,
        direction := .down } := by
  obtain ⟨henabled, -, habove, -⟩ := Screen.guardReduces_iff.mp h
  have hcount : c.countedGuard.releaseCount = 0 := by
    rw [Screen.countedGuard, GuardBlock.count, habove]
    rfl
  rw [Screen.guardAfter, if_neg (by rw [henabled]; exact Bool.noConfusion), if_pos h, GuardBlock.stepDown, hcount]
  rfl

/-- A guard that releases. -/
theorem Screen.guardAfter_of_releases (h : c.guardReleases = true) :
    c.guardAfter =
      { c.guard with
        value := min 0 (c.guard.value + c.guard.step), stepTimer := 0, releaseCount := c.guard.release / 10,
        direction := .up } := by
  obtain ⟨henabled, hnot, hcount, -⟩ := Screen.guardReleases_iff.mp h
  rw [Screen.guardAfter, if_neg (by rw [henabled]; exact Bool.noConfusion), if_neg hnot, if_pos h, GuardBlock.stepUp, hcount]
  rfl

/-- The guard of a close in the rules' terms. -/
theorem Screen.guardAfter_eq :
    c.guardAfter =
      let g := c.guard
      let spl := c.meters.totalLevel + c.meters.calibration
      let above := c.alarms.overSettings.threshold < spl
      let below := ¬ above ∧ spl ≤ c.alarms.overSettings.threshold - c.alarms.overSettings.hysteresis
      let timer := if g.stepTimer < g.interval / 10 then g.stepTimer + 1 else g.stepTimer
      let count := if below then min (g.release / 10) (g.releaseCount + 1) else 0
      if g.enabled = false then g
      else if c.alarms.overLevel.state = .raised ∧ above ∧ timer = g.interval / 10 ∧ g.floor < g.value then
        { g with value := max g.floor (g.value - g.step), stepTimer := 0, releaseCount := count, direction := .down }
      else if count = g.release / 10 ∧ g.value < 0 ∧ timer = g.interval / 10 then
        { g with value := min 0 (g.value + g.step), stepTimer := 0, releaseCount := count, direction := .up }
      else { g with stepTimer := timer, releaseCount := count } := by
  extract_lets g spl above below timer count
  have habove : c.totalClass = .above ↔ above := levelClass_above
  have hbelow : c.totalClass = .below ↔ below := levelClass_below
  have hcounted : c.countedGuard = { g with stepTimer := timer, releaseCount := count } := by
    rw [Screen.countedGuard, GuardBlock.count]
    exact congrArg (fun n => { g with stepTimer := timer, releaseCount := n }) (ite_congr (propext hbelow) (fun _ => rfl) fun _ => rfl)
  by_cases henabled : g.enabled = false
  · rw [if_pos henabled, Screen.guardAfter, if_pos henabled]
  · have hon : g.enabled = true := Bool.of_not_eq_false henabled
    have hreduces : c.guardReduces = true ↔
        c.alarms.overLevel.state = .raised ∧ above ∧ timer = g.interval / 10 ∧ g.floor < g.value := by
      rw [Screen.guardReduces_iff, habove, hcounted, and_iff_right hon]
    rw [if_neg henabled, Screen.guardAfter, if_neg henabled, hcounted]
    by_cases h : c.guardReduces = true
    · rw [if_pos h, if_pos (hreduces.mp h)]
      rfl
    · have hreleases : c.guardReleases = true ↔ count = g.release / 10 ∧ g.value < 0 ∧ timer = g.interval / 10 := by
        rw [Screen.guardReleases_iff, hcounted, and_iff_right hon, and_iff_right h]
      rw [if_neg h, if_neg (mt hreduces.mpr h)]
      by_cases h' : c.guardReleases = true
      · rw [if_pos h', if_pos (hreleases.mp h')]
        rfl
      · rw [if_neg h', if_neg (mt hreleases.mpr h')]

end

/-- Settles O32: the two rows, the close, and the records of a step. -/
theorem guardStepsAtTheirClose : Obligations.GuardStepsAtTheirClose := by
  refine ⟨fun s i hdue h => ?_, fun s i hdue h => ?_, fun s i hcount => ?_, fun s i up => ?_⟩
  · refine ⟨s.boundary i, congrArg Host.Outcome.next (if_pos (by rw [hdue, h]; rfl)), ?_⟩
    rw [State.scr_boundary_evaluated (Nat.le_of_succ_le_succ (of_decide_eq_true hdue)), Screen.guardAfter_of_reduces h,
      State.guard_evaluated]
  · refine ⟨s.boundary i, congrArg Host.Outcome.next (if_pos (by rw [hdue, h]; rfl)), ?_⟩
    rw [State.scr_boundary_evaluated (Nat.le_of_succ_le_succ (of_decide_eq_true hdue)), Screen.guardAfter_of_releases h,
      State.guard_evaluated]
  · have hdue : (s.scr i).closeDue = true := decide_eq_true (Nat.succ_le_succ hcount)
    refine ⟨s.boundary i, congrArg Host.Outcome.next (if_pos hdue), ?_⟩
    rw [State.scr_boundary_evaluated hcount, Screen.guardAfter_eq, State.guard_evaluated, State.overSettings_evaluated]
  · intro g stepped moved turned
    cases up
    · exact State.guardDownStep_eq
    · exact State.guardUpStep_eq

end Sys2Proof.Machine
end

section
/-! The rounded logarithms (R41, R93): a search over the half steps finds the nearest whole number, within the ends of
the search. -/

namespace Sys2Proof.Machine

/-! ### The test of a search -/

/-- The half step below `r` is not above k × log10 (num / den). -/
def LogHalfStepBelow (k num den : Nat) (r : Int) : Prop :=
  den ^ (2 * k) * 10 ^ (2 * r - 1).toNat ≤ num ^ (2 * k) * 10 ^ (1 - 2 * r).toNat

theorem roundedLogAtLeast_iff {k num den : Nat} {r : Int} :
    roundedLogAtLeast k num den r = true ↔ LogHalfStepBelow k num den r := by
  rw [roundedLogAtLeast, powTenLe_iff, LogHalfStepBelow, Int.neg_sub]

theorem LogHalfStepBelow.anti {k num den : Nat} {a b : Int} (hab : a ≤ b) (h : LogHalfStepBelow k num den b) :
    LogHalfStepBelow k num den a :=
  calc den ^ (2 * k) * 10 ^ (2 * a - 1).toNat
      ≤ den ^ (2 * k) * 10 ^ (2 * b - 1).toNat :=
        Nat.mul_le_mul_left _ (Nat.pow_le_pow_right (by decide) (by omega))
    _ ≤ num ^ (2 * k) * 10 ^ (1 - 2 * b).toNat := h
    _ ≤ num ^ (2 * k) * 10 ^ (1 - 2 * a).toNat :=
        Nat.mul_le_mul_left _ (Nat.pow_le_pow_right (by decide) (by omega))

/-- That the next whole number's half step is above the exact value, written out at `r`. -/
theorem not_logHalfStepBelow_succ {k num den : Nat} {r : Int} :
    ¬ LogHalfStepBelow k num den (r + 1) ↔
      num ^ (2 * k) * 10 ^ (-1 - 2 * r).toNat < den ^ (2 * k) * 10 ^ (2 * r + 1).toNat := by
  rw [LogHalfStepBelow, Nat.not_le, show 1 - 2 * (r + 1) = -1 - 2 * r by omega,
    show 2 * (r + 1) - 1 = 2 * r + 1 by omega]

/-! ### The search -/

/-- A search that no number passes stays where it starts. -/
theorem greatest_of_false {p : Nat → Bool} (mono : ∀ a b, a ≤ b → p b = true → p a = true) (bits : Nat) {acc : Nat}
    (h : p acc = false) : greatest p bits acc = acc := by
  have hfalse : ∀ n, acc ≤ n → p n = false := fun n hn =>
    Bool.eq_false_iff.mpr fun hp => Bool.eq_false_iff.mp h (mono acc n hn hp)
  induction bits with
  | zero => rfl
  | succ k ih => rw [greatest, hfalse _ (Nat.le_add_right _ _), if_neg Bool.false_ne_true, ih]

/-- The number `g` that a search from `base` up finds: above the start its own half step is below the exact value, and
below the end of the search the next one's is not. -/
theorem logSearch_spec (k num den bits : Nat) (base : Int) :
    let g := greatest (fun c => roundedLogAtLeast k num den (base + (c : Int))) bits 0
    (0 < g → LogHalfStepBelow k num den (base + g)) ∧
      (g + 1 < 2 ^ bits → ¬ LogHalfStepBelow k num den (base + g + 1)) := by
  intro g
  have mono : ∀ a b : Nat, a ≤ b → roundedLogAtLeast k num den (base + (b : Int)) = true →
      roundedLogAtLeast k num den (base + (a : Int)) = true := fun a b hab hb =>
    roundedLogAtLeast_iff.mpr ((roundedLogAtLeast_iff.mp hb).anti (by omega))
  cases hzero : roundedLogAtLeast k num den (base + ((0 : Nat) : Int))
  case false =>
    have hg : g = 0 := greatest_of_false mono bits hzero
    refine ⟨by omega, fun _ hnext => ?_⟩
    have := roundedLogAtLeast_iff.mpr (hnext.anti (a := base + ((0 : Nat) : Int)) (by omega))
    exact absurd this (by rw [hzero]; exact Bool.false_ne_true)
  case true =>
    obtain ⟨hbelow, -, -, hgreatest⟩ := greatest_spec mono bits 0 hzero
    refine ⟨fun _ => roundedLogAtLeast_iff.mp hbelow, fun hin hnext => ?_⟩
    have hle := hgreatest (g + 1) (by omega)
      (roundedLogAtLeast_iff.mpr (hnext.anti (a := base + ((g + 1 : Nat) : Int)) (by omega)))
    exact Nat.not_succ_le_self g hle

/-! ### Levels (R93) -/

/-- A mean square of at most seven full scales stays far below the end of the level's search. -/
theorem not_logHalfStepBelow_top {sum full : Nat} (hfull : 0 < full) (hsum : sum ≤ 7 * full) :
    ¬ LogHalfStepBelow 100 sum full 847 := by
  rw [LogHalfStepBelow, Nat.not_le]
  calc sum ^ 200 * 10 ^ (1 - 2 * 847 : Int).toNat
      ≤ (7 * full) ^ 200 := by
        rw [show (1 - 2 * 847 : Int).toNat = 0 from rfl, Nat.pow_zero, Nat.mul_one]
        exact Nat.pow_le_pow_left hsum 200
    _ = full ^ 200 * 7 ^ 200 := by rw [Nat.mul_pow, Nat.mul_comm]
    _ < full ^ 200 * 10 ^ 200 :=
        Nat.mul_lt_mul_of_pos_left (Nat.pow_lt_pow_left (by decide) (by decide)) (Nat.pow_pos hfull)
    _ ≤ full ^ 200 * 10 ^ (2 * 847 - 1 : Int).toNat := Nat.mul_le_mul_left _ (Nat.pow_le_pow_right (by decide) (by decide))

/-- Settles O48: the search's number is the nearest, and the top of the search is out of reach. -/
theorem levelIsNearest : Obligations.LevelIsNearest := by
  intro sum n hsum r full
  have hsum : sum ≤ 7 * full := by simpa only [full, Nat.mul_assoc] using hsum
  by_cases hempty : sum = 0 ∨ n = 0
  case pos =>
    have hr : r = -1200 := if_pos hempty
    exact ⟨fun _ => hr, by omega, by omega, fun _ _ => by omega⟩
  case neg =>
    have hfull : 0 < full := by omega
    obtain ⟨g, hg⟩ : ∃ g, g = greatest (fun c => roundedLogAtLeast 100 sum full (-1200 + (c : Int))) 11 0 := ⟨_, rfl⟩
    have hr : r = -1200 + (g : Int) := by rw [hg]; exact if_neg hempty
    obtain ⟨hbelow, habove⟩ := logSearch_spec 100 sum full 11 (-1200)
    rw [← hg] at hbelow habove
    have htop : g + 1 < 2 ^ 11 := by
      refine Classical.byContradiction fun hout => ?_
      exact not_logHalfStepBelow_top hfull hsum ((hbelow (by omega)).anti (by omega))
    rw [hr]
    exact ⟨fun h => absurd h hempty, by omega, fun hlow => hbelow (by omega),
      fun _ _ => not_logHalfStepBelow_succ.mp (habove htop)⟩

/-! ### Dominance (R41) -/

theorem dominance_of_silent_surround {ec es : Nat} (h : es = 0) : dominance ec es = if ec = 0 then 0 else 120 :=
  if_pos h

theorem dominance_of_silent_centre {ec es : Nat} (hs : es ≠ 0) (hc : ec = 0) : dominance ec es = -120 := by
  rw [dominance, if_neg hs, if_pos hc]

/-- The dominance of two energies is the nearest whole number, held at 120 and -120. -/
theorem dominance_spec {ec es : Nat} (hs : es ≠ 0) (hc : ec ≠ 0) :
    -120 ≤ dominance ec es ∧ dominance ec es ≤ 120 ∧
      (-120 < dominance ec es → LogHalfStepBelow 60 ec es (dominance ec es)) ∧
      (dominance ec es < 120 → ¬ LogHalfStepBelow 60 ec es (dominance ec es + 1)) := by
  obtain ⟨g, hg⟩ : ∃ g, g = greatest (fun c => roundedLogAtLeast 60 ec es (-120 + (c : Int))) 8 0 := ⟨_, rfl⟩
  have hd : dominance ec es = min 120 (-120 + (g : Int)) := by rw [hg, dominance, if_neg hs, if_neg hc]
  obtain ⟨hbelow, habove⟩ := logSearch_spec 60 ec es 8 (-120)
  rw [← hg] at hbelow habove
  refine ⟨by omega, by omega, fun hlow => (hbelow (by omega)).anti (by omega), fun hhigh => ?_⟩
  rw [show dominance ec es = -120 + (g : Int) by omega]
  exact habove (by omega)

end Sys2Proof.Machine
end

section
/-! The decoder's block (R31 to R43): the change of the format in force, the route of every format, and a MATRIX block. -/

namespace Sys2Proof.Machine

/-! ### The format in force (R31, R33) -/

/-- The decoder once the format of a block is in force: as it was, or cleared by the change. -/
def Decoder.changed (d : Decoder) (t : Taken) : Decoder :=
  if d.nextFormat t = d.inForce then d else d.changeFormat (d.nextFormat t)

section
variable {d : Decoder} {t : Taken}

theorem Decoder.changed_of_eq (h : d.nextFormat t = d.inForce) : d.changed t = d := if_pos h

theorem Decoder.changed_of_ne (h : d.nextFormat t ≠ d.inForce) : d.changed t = d.changeFormat (d.nextFormat t) := if_neg h

@[simp] theorem Decoder.changed_inForce : (d.changed t).inForce = d.nextFormat t := by
  unfold Decoder.changed
  split
  next h => exact h.symm
  next => rfl

@[simp] theorem Decoder.changed_mask : (d.changed t).mask = d.mask := by
  unfold Decoder.changed
  split <;> rfl

@[simp] theorem Decoder.changed_topology : (d.changed t).topology = d.topology := by
  unfold Decoder.changed
  split <;> rfl

@[simp] theorem Decoder.changed_delay : (d.changed t).delay = d.delay := by
  unfold Decoder.changed
  split <;> rfl

/-- When the format in force becomes MATRIX: it is forced, or nothing is forced and the block says so, or neither says
anything and it is MATRIX already. -/
theorem Decoder.nextFormat_eq_matrix_iff :
    d.nextFormat t = some .matrix ↔
      d.forced = some .matrix ∨
        (d.forced = none ∧ (t.format = some .matrix ∨ (t.format = none ∧ d.inForce = some .matrix))) := by
  cases hforced : d.forced with
  | some f => simp [Decoder.nextFormat, hforced]
  | none => cases hformat : t.format <;> simp [Decoder.nextFormat, hforced, hformat]

end

section
variable {s : State} {i : ScreenIx} {t : Taken}

theorem State.decodeFormat_of_eq (h : (s.scr i).decoder.nextFormat t = (s.scr i).decoder.inForce) :
    s.decodeFormat i t = s := if_pos h

theorem State.modDecoder_eq_put {f : Decoder → Decoder} :
    s.modDecoder i f = s.put i { s.scr i with decoder := f (s.scr i).decoder } [] := State.modScreen_eq_put

/-- The detail of DECODE FORMAT: the format before, the one now in force, and whether it is forced. -/
def Decoder.formatDetail (d : Decoder) (f : Option Format) : List Byte :=
  [BitVec.ofNat 8 (inForceCode d.inForce), BitVec.ofNat 8 (inForceCode f), BitVec.ofNat 8 (boolCode d.forced.isSome)]

theorem State.decodeFormat_of_ne (h : (s.scr i).decoder.nextFormat t ≠ (s.scr i).decoder.inForce) :
    s.decodeFormat i t =
      let d := (s.scr i).decoder
      (s.put i { s.scr i with decoder := d.changeFormat (d.nextFormat t) } []).post .decodeFormat i
        (d.formatDetail (d.nextFormat t)) := by
  simp only [State.decodeFormat, if_neg h, State.modDecoder_eq_put, u8_eq, flag_eq]
  rfl

@[simp] theorem State.decoder_decodeFormat : ((s.decodeFormat i t).scr i).decoder = (s.scr i).decoder.changed t := by
  by_cases h : (s.scr i).decoder.nextFormat t = (s.scr i).decoder.inForce
  · rw [State.decodeFormat_of_eq h, Decoder.changed_of_eq h]
  · rw [State.decodeFormat_of_ne h, Decoder.changed_of_ne h]
    simp

end

/-! ### The route map (section 2.5) -/

section
variable {f : Format} {d d' : Decoder} {t : Taken} {sur : List Int} {b : Bus}

/-- The route of a block looks at the layout alone. -/
theorem route_congr (hmask : d'.mask = d.mask) (htopology : d'.topology = d.topology) :
    route f d' t sur = route f d t sur := by
  have hpresent : d'.present = d.present := funext fun b => congrArg (·.getLsbD b.val) hmask
  unfold route
  rw [hpresent, htopology]

theorem route_absent (h : d.present b = false) : (route f d t sur)[b] = zeroBlock := by
  simp [route, h]

/-- A bus outside the front pair, and every bus of STEREO, has its own content. -/
theorem route_own (h : ¬ (b = busL ∨ b = busR) ∨ f = .stereo) :
    (route f d t sur)[b] = if d.present b then (ownContent f d.topology t sur)[b] else zeroBlock := by
  rcases h with h | h <;> simp [route, h]

/-- The front pair takes half of the centre's content when bus C is absent (R38). -/
theorem route_front (hb : b = busL ∨ b = busR) (hf : f ≠ .stereo) :
    (route f d t sur)[b] =
      let own := ownContent f d.topology t sur
      if d.present b then (if d.present busC then own[b] else mixSum own[b] (halfOf own[busC])) else zeroBlock := by
  by_cases hc : d.present busC <;> simp [route, hb, hf, hc]

/-- A bus whose own content is zeros has zeros. -/
theorem route_zero (h : ¬ (b = busL ∨ b = busR) ∨ f = .stereo) (hown : (ownContent f d.topology t sur)[b] = zeroBlock) :
    (route f d t sur)[b] = zeroBlock := by
  rw [route_own h, hown, ite_self]

end

/-! ### The block's decoding -/

section
variable {s : State} {i : ScreenIx} {t : Taken}

theorem State.decode_of_none (h : (s.scr i).decoder.nextFormat t = none) :
    s.decode i t = (s.decodeFormat i t, Vector.replicate 8 zeroBlock) := by
  simp only [State.decode, State.decoder_decodeFormat, Decoder.changed_inForce, h]

theorem State.decode_of_routed {f : Format} (h : (s.scr i).decoder.nextFormat t = some f) (hf : f ≠ .matrix) :
    s.decode i t = (s.decodeFormat i t, route f (s.scr i).decoder t zeroBlock) := by
  have hroute := route_congr (f := f) (t := t) (sur := zeroBlock) (Decoder.changed_mask (d := (s.scr i).decoder) (t := t))
    Decoder.changed_topology
  rw [← hroute]
  simp only [State.decode, State.decoder_decodeFormat, Decoder.changed_inForce, h]

theorem State.decode_of_matrix (h : (s.scr i).decoder.nextFormat t = some .matrix) :
    s.decode i t =
      let d := ((s.scr i).decoder.changed t).matrixBlock t
      ((s.decodeFormat i t).modDecoder i (fun d => d.matrixBlock t), route .matrix (s.scr i).decoder t d.delayed) := by
  have hroute (sur : List Int) := route_congr (f := .matrix) (d' := ((s.scr i).decoder.changed t).matrixBlock t)
    (d := (s.scr i).decoder) (t := t) (sur := sur) Decoder.changed_mask Decoder.changed_topology
  simp only [State.decode, State.decoder_decodeFormat, Decoder.changed_inForce, h, State.scr_modDecoder, if_true, hroute]

/-- The decoder after a MATRIX block. -/
theorem State.decoder_decode_of_matrix (h : (s.scr i).decoder.nextFormat t = some .matrix) :
    ((s.decode i t).1.scr i).decoder = ((s.scr i).decoder.changed t).matrixBlock t := by
  rw [State.decode_of_matrix h]
  simp

end

end Sys2Proof.Machine
end

section
/-! O39: dominance, the MATRIX block, and the route and record of every format. -/

namespace Sys2Proof.Machine

section
variable {s : State} {i : ScreenIx} {t : Taken}

/-! ### The blocks of a routed format -/

/-- What a bus is to carry: its content while it is present, and zeros while it is absent. -/
def Decoder.Carries (d : Decoder) (r : Vector (List Int) 8) (b : Bus) (own : List Int) : Prop :=
  r[b] = if d.present b then own else zeroBlock

/-- The front pair with the centre, which folds into the pair when bus C is absent (R38). -/
def Decoder.CarriesFront (d : Decoder) (r : Vector (List Int) 8) (l c rr : List Int) : Prop :=
  d.Carries r 0 (if d.present 1 then l else mixSum l (halfOf c)) ∧ d.Carries r 1 c ∧
    d.Carries r 2 (if d.present 1 then rr else mixSum rr (halfOf c))

variable {f : Format} {d : Decoder} {sur : List Int}

/-- A bus behind the front pair carries its own content. -/
theorem carries_own {b : Bus} (h : ¬ (b = busL ∨ b = busR)) :
    d.Carries (route f d t sur) b (ownContent f d.topology t sur)[b] := route_own (.inl h)

theorem carriesFront (hf : f ≠ .stereo) :
    let own := ownContent f d.topology t sur
    d.CarriesFront (route f d t sur) own[(0 : Bus)] own[(1 : Bus)] own[(2 : Bus)] :=
  ⟨route_front (.inl rfl) hf, carries_own (by decide), route_front (.inr rfl) hf⟩

/-- The buses LFE and those behind. -/
theorem bus_from_lfe {b : Bus} : 3 ≤ b.val → b = 3 ∨ b = 4 ∨ b = 5 ∨ b = 6 ∨ b = 7 := by
  revert b
  decide

theorem bus_behind {b : Bus} : 4 ≤ b.val → b = 4 ∨ b = 5 ∨ b = 6 ∨ b = 7 := by
  revert b
  decide

theorem not_front_of_from_lfe {b : Bus} : 3 ≤ b.val → ¬ (b = busL ∨ b = busR) := by
  revert b
  decide

theorem route_mono :
    d.CarriesFront (route .mono d t sur) zeroBlock (t.channel 0) zeroBlock ∧
      ∀ b : Bus, 3 ≤ b.val → (route .mono d t sur)[b] = zeroBlock := by
  refine ⟨carriesFront (f := .mono) (by decide), fun b hb => route_zero (.inl (not_front_of_from_lfe hb)) ?_⟩
  rcases bus_from_lfe hb with rfl | rfl | rfl | rfl | rfl <;> rfl

theorem route_stereo :
    d.Carries (route .stereo d t sur) 0 (t.channel 0) ∧ d.Carries (route .stereo d t sur) 2 (t.channel 1) ∧
      ∀ b : Bus, b = 1 ∨ 3 ≤ b.val → (route .stereo d t sur)[b] = zeroBlock := by
  refine ⟨route_own (.inr rfl), route_own (.inr rfl), fun b hb => route_zero (.inr rfl) ?_⟩
  rcases hb with rfl | hb
  · rfl
  · rcases bus_from_lfe hb with rfl | rfl | rfl | rfl | rfl <;> rfl

theorem route_matrix_front (hc : d.present 1 = false) :
    d.Carries (route .matrix d t sur) 0 (mixSum (t.channel 0) (halfOf (matrixCentre t))) ∧
      d.Carries (route .matrix d t sur) 2 (mixSum (t.channel 1) (halfOf (matrixCentre t))) := by
  obtain ⟨hl, -, hr⟩ := carriesFront (f := .matrix) (d := d) (t := t) (sur := sur) (by decide)
  rw [if_neg (by simp [hc])] at hl hr
  exact ⟨hl, hr⟩

theorem route_discrete6 :
    let has := d.Carries (route .discrete6 d t sur)
    d.CarriesFront (route .discrete6 d t sur) (t.channel 0) (t.channel 1) (t.channel 2) ∧ has 3 (t.channel 3) ∧
      has 4 (t.channel 4) ∧ has 5 (t.channel 5) ∧
      has 6 (if d.topology = .sideRear then t.channel 4 else zeroBlock) ∧
      has 7 (if d.topology = .sideRear then t.channel 5 else zeroBlock) := by
  have own (b : Bus) (hb : 3 ≤ b.val) := carries_own (f := .discrete6) (d := d) (t := t) (sur := sur)
    (not_front_of_from_lfe hb)
  have front := carriesFront (f := .discrete6) (d := d) (t := t) (sur := sur) (by decide)
  have h3 := own 3 (by decide)
  have h4 := own 4 (by decide)
  have h5 := own 5 (by decide)
  have h6 := own 6 (by decide)
  have h7 := own 7 (by decide)
  cases htop : d.topology <;> rw [htop] at front h3 h4 h5 h6 h7 <;> exact ⟨front, h3, h4, h5, h6, h7⟩

theorem route_discrete8 :
    let r := route .discrete8 d t sur
    d.CarriesFront r (t.channel 0) (t.channel 1) (t.channel 2) ∧ d.Carries r 3 (t.channel 3) ∧
      (if d.topology = .sideRear then
        d.Carries r 4 (t.channel 4) ∧ d.Carries r 5 (t.channel 5) ∧ d.Carries r 6 (t.channel 6) ∧
          d.Carries r 7 (t.channel 7)
      else
        d.Carries r 4 (halfSum (t.channel 4) (t.channel 6)) ∧ d.Carries r 5 (halfSum (t.channel 5) (t.channel 7)) ∧
          r[(6 : Bus)] = zeroBlock ∧ r[(7 : Bus)] = zeroBlock) := by
  have own (b : Bus) (hb : 3 ≤ b.val) := carries_own (f := .discrete8) (d := d) (t := t) (sur := sur)
    (not_front_of_from_lfe hb)
  have front := carriesFront (f := .discrete8) (d := d) (t := t) (sur := sur) (by decide)
  have h3 := own 3 (by decide)
  have h4 := own 4 (by decide)
  have h5 := own 5 (by decide)
  have h6 := own 6 (by decide)
  have h7 := own 7 (by decide)
  cases htop : d.topology with
  | side =>
    rw [htop] at front h3 h4 h5
    have h6 : (route .discrete8 d t sur)[(6 : Bus)] = zeroBlock := route_zero (.inl (by decide)) (by rw [htop]; rfl)
    have h7 : (route .discrete8 d t sur)[(7 : Bus)] = zeroBlock := route_zero (.inl (by decide)) (by rw [htop]; rfl)
    exact ⟨front, h3, h4, h5, h6, h7⟩
  | sideRear =>
    rw [htop] at front h3 h4 h5 h6 h7
    exact ⟨front, h3, h4, h5, h6, h7⟩

end

/-! ### The obligation's readings -/

section
variable {s : State} {i : ScreenIx} {t : Taken}

theorem mixSum_halfOf {a c : List Int} :
    mixSum a (halfOf c) = List.zipWith (fun x y => max (-8388608) (min 8388607 (x + y / 2))) a c := by
  rw [mixSum, halfOf, List.zipWith_map_right]
  rfl

/-- The state after a block that is not decoded as MATRIX: the format's change and its record. -/
theorem State.decode_state_of_routed (h : (s.scr i).decoder.nextFormat t ≠ some .matrix) :
    (s.decode i t).1 = s.decodeFormat i t := by
  cases hnext : (s.scr i).decoder.nextFormat t with
  | none => rw [State.decode_of_none hnext]
  | some f => rw [State.decode_of_routed hnext (fun hf => h (hnext.trans (congrArg some hf)))]

theorem State.decodeFormat_eq :
    s.decodeFormat i t =
      let d := (s.scr i).decoder
      if d.nextFormat t = d.inForce then s
      else
        State.post { s with screens := s.screens.set i { s.scr i with decoder := d.changeFormat (d.nextFormat t) } }
          .decodeFormat i (d.formatDetail (d.nextFormat t)) := by
  dsimp only
  split
  next h => exact State.decodeFormat_of_eq h
  next h =>
    rw [State.decodeFormat_of_ne h]
    dsimp only
    rw [State.put_nil]

/-- The state after a MATRIX block: the decoder as it leaves it, and the record of a change behind. -/
theorem State.decode_state_of_matrix (h : (s.scr i).decoder.nextFormat t = some .matrix) :
    (s.decode i t).1 =
      let d := (s.scr i).decoder
      let steered : State :=
        { s with screens := s.screens.set i { s.scr i with decoder := ((s.decode i t).1.scr i).decoder } }
      if d.inForce = some .matrix then steered else steered.post .decodeFormat i (d.formatDetail (some .matrix)) := by
  rw [State.decoder_decode_of_matrix h, State.decode_of_matrix h]
  dsimp only
  split
  next hin =>
    have heq := h.trans hin.symm
    rw [State.decodeFormat_of_eq heq, Decoder.changed_of_eq heq]
    rfl
  next hin =>
    have hne := h ▸ Ne.symm hin
    rw [State.decodeFormat_of_ne hne, Decoder.changed_of_ne hne, State.modDecoder_eq_put, ← State.put_nil]
    simp only [State.scr_post, State.scr_put_same, h]
    rw [State.put_post (by rw [State.scr_put_same]), State.put_put]
    rfl

/-- The blocks of the buses after a MATRIX block. -/
theorem State.decode_blocks_of_matrix (h : (s.scr i).decoder.nextFormat t = some .matrix) :
    (s.decode i t).2 =
      route .matrix (s.scr i).decoder t (((s.scr i).decoder.changed t).matrixBlock t).delayed := by
  rw [State.decode_of_matrix h]

theorem State.decode_blocks_of_routed {f : Format} (h : (s.scr i).decoder.nextFormat t = some f) (hf : f ≠ .matrix) :
    (s.decode i t).2 = route f (s.scr i).decoder t zeroBlock := by
  rw [State.decode_of_routed h hf]

/-- The entry as old as the delay, out of a line with the newest entry in front: the line's length is beyond it. -/
theorem Decoder.delayed_matrixBlock {d : Decoder} (h : d.delay ≤ 40) :
    (d.matrixBlock t).delayed = ((matrixSurround t :: d.line)[d.delay]?).getD zeroBlock := by
  change (((matrixSurround t :: d.line).take 41)[d.delay]?).getD zeroBlock = _
  rw [List.getElem?_take_of_lt (by omega)]

/-- The route of a MATRIX block: the delayed surround behind, the derived centre and the pair in front. -/
theorem route_matrix {d : Decoder} {sur : List Int} :
    (∀ b : Bus, 4 ≤ b.val → d.present b = true → (route .matrix d t sur)[b] = sur) ∧
      (d.present 1 = true → (route .matrix d t sur)[(1 : Bus)] = matrixCentre t ∧
        (d.present 0 = true → (route .matrix d t sur)[(0 : Bus)] = t.channel 0) ∧
        (d.present 2 = true → (route .matrix d t sur)[(2 : Bus)] = t.channel 1)) ∧
      (∀ b : Bus, b = 3 ∨ d.present b = false → (route .matrix d t sur)[b] = zeroBlock) := by
  obtain ⟨hl, hc, hr⟩ := carriesFront (f := .matrix) (d := d) (t := t) (sur := sur) (by decide)
  refine ⟨fun b hb hpresent => ?_, fun hpresent => ⟨?_, fun h0 => ?_, fun h2 => ?_⟩, fun b hb => ?_⟩
  · rw [route_own (.inl (not_front_of_from_lfe (by omega))), if_pos hpresent]
    rcases bus_behind hb with rfl | rfl | rfl | rfl <;> rfl
  · exact hc.trans (if_pos hpresent)
  · exact (hl.trans (if_pos h0)).trans (if_pos hpresent)
  · exact (hr.trans (if_pos h2)).trans (if_pos hpresent)
  · rcases hb with rfl | hb
    · exact route_zero (.inl (by decide)) rfl
    · exact route_absent hb

/-! ### The obligation -/

theorem Decoder.changed_of_matrix {d : Decoder} (h : d.nextFormat t = some .matrix) :
    d.changed t = if d.inForce = some .matrix then d else d.changeFormat (some .matrix) := by
  rw [Decoder.changed, h]
  simp only [eq_comm]

end

/-- Settles O39: the dominance by its search, a MATRIX block by the decoder's steps, and the formats one by one. -/
theorem matrixBlockSteers : Obligations.MatrixBlockSteers := by
  refine ⟨fun ec es => ?_, fun s i t => ?_, fun s i t => ?_⟩
  · intro d
    by_cases hs : es = 0
    · have hd : d = _ := dominance_of_silent_surround hs
      refine ⟨fun _ => hd, fun h => absurd hs h, ?_, ?_, fun h => by omega, fun h => by omega⟩ <;>
        (rw [hd]; split <;> decide)
    · by_cases hc : ec = 0
      · have hd : d = -120 := dominance_of_silent_centre hs hc
        exact ⟨fun h => absurd h hs, fun _ _ => hd, by omega, by omega, fun _ h => by omega, fun _ h => by omega⟩
      · obtain ⟨hlow, hhigh, hbelow, habove⟩ := dominance_spec hs hc
        exact ⟨fun h => absurd h hs, fun _ h => absurd h hc, hlow, hhigh, fun _ _ => hbelow,
          fun _ _ h => not_logHalfStepBelow_succ.mp (habove h)⟩
  · intro d lt rt centre surround dom toward before hmatrix hdelay
    have hnext : d.nextFormat t = some .matrix := Decoder.nextFormat_eq_matrix_iff.mpr hmatrix
    have hbefore : d.changed t = before := Decoder.changed_of_matrix hnext
    obtain ⟨hbehind, hfront, hzero⟩ := route_matrix (t := t) (d := d) (sur := ((d.changed t).matrixBlock t).delayed)
    rw [← State.decode_blocks_of_matrix hnext] at hbehind hfront hzero
    refine ⟨?_, fun b hb hpresent => ?_, hfront, hzero⟩
    · rw [State.decoder_decode_of_matrix hnext]
      change (d.changed t).matrixBlock t = _
      rw [hbefore]
      rfl
    · rw [hbehind b hb hpresent, Decoder.delayed_matrixBlock (by rw [Decoder.changed_delay]; exact hdelay),
        Decoder.changed_delay, hbefore]
      rfl
  · intro d next zero ch mean fold present r has front
    have hnext : next = d.nextFormat t := by
      simp only [next, Decoder.nextFormat]
      cases d.forced <;> cases t.format <;> rfl
    rw [hnext]
    have hfold (a c : List Int) : fold a c = mixSum a (halfOf c) := mixSum_halfOf.symm
    have hfront {l c rr : List Int} (h : d.CarriesFront r.2 l c rr) : front l c rr := by
      simp only [front, hfold]
      exact h
    refine ⟨fun h b => ?_, fun h => ?_, fun h => ?_, fun h hc => ?_, fun h => ?_, fun h => ?_, fun h => ?_, fun h => ?_⟩
    · have hr : r = (s.decodeFormat i t, Vector.replicate 8 zeroBlock) := State.decode_of_none h
      rw [hr]
      exact Vector.getElem_replicate _
    · have hr : r.2 = _ := State.decode_blocks_of_routed h (by decide)
      obtain ⟨hthree, hrest⟩ := route_mono (d := d) (t := t) (sur := zeroBlock)
      rw [← hr] at hthree hrest
      exact ⟨hfront hthree, hrest⟩
    · have hr : r.2 = _ := State.decode_blocks_of_routed h (by decide)
      have hroute := route_stereo (d := d) (t := t) (sur := zeroBlock)
      rw [← hr] at hroute
      exact hroute
    · have hr : r.2 = _ := State.decode_blocks_of_matrix h
      have hroute := route_matrix_front (t := t) (sur := ((d.changed t).matrixBlock t).delayed) hc
      rw [← hr] at hroute
      rw [hfold, hfold]
      exact hroute
    · have hr : r.2 = _ := State.decode_blocks_of_routed h (by decide)
      obtain ⟨hthree, hrest⟩ := route_discrete6 (d := d) (t := t) (sur := zeroBlock)
      rw [← hr] at hthree hrest
      exact ⟨hfront hthree, hrest⟩
    · have hr : r.2 = _ := State.decode_blocks_of_routed h (by decide)
      obtain ⟨hthree, hrest⟩ := route_discrete8 (d := d) (t := t) (sur := zeroBlock)
      rw [← hr] at hthree hrest
      exact ⟨hfront hthree, hrest⟩
    · exact (State.decode_state_of_routed h).trans State.decodeFormat_eq
    · exact State.decode_state_of_matrix h

end Sys2Proof.Machine
end

section
/-! The actions of cues (R155 to R160), each as the record or the field it sets on the state before it. -/

namespace Sys2Proof.Machine

section
variable {s : State} {i : ScreenIx} {target : Target}

/-! ### A selection that is no request (R83 to R85) -/

/-- The table of R76 decides it: carried out, or refused with its record. -/
theorem State.presetTried_eq :
    s.presetTried i target =
      if s.decideIdle i target = .noBands then s.postRefused i target
      else s.carryOut i target (s.decideIdle i target) := by
  unfold State.presetTried State.presetStarted State.decideIdle
  dsimp only
  by_cases hsame : target = (s.scr i).equaliser.active
  · rw [if_pos hsame, if_pos hsame]
    rfl
  · rw [if_neg hsame, if_neg hsame]
    by_cases hwhole : s.requirement i target ≤ s.bandsFree
    · rw [if_pos hwhole, if_pos hwhole, if_neg (by decide), State.carryOut, State.startCrossfade_eq, State.put_nil]
      rfl
    · rw [if_neg hwhole, if_neg hwhole]
      by_cases honce : s.requirement i target ≤ s.bandsFree + s.requirement i (s.scr i).equaliser.active
      · rw [if_pos honce, if_pos honce, if_neg (by decide), State.carryOut, State.startCut_eq, State.put_nil]
        rfl
      · rw [if_neg honce, if_neg honce, if_pos rfl]
        rfl

/-- What a PRESET action leaves: on an IDLE screen what the table decides, else its target in the pending slot. -/
theorem State.selectedByAction_eq :
    (if (s.select i target).2 = .noBands then s.postRefused i target else (s.select i target).1) =
      if (s.scr i).equaliser.switch = .idle then s.presetTried i target else s.makePending i target := by
  unfold State.select
  by_cases hidle : (s.scr i).equaliser.switch = .idle
  · rw [if_pos hidle, if_pos hidle, State.presetTried_eq]
  · rw [if_neg hidle, if_neg hidle, if_neg nofun]

end

/-! ### Ramps of a cue (R51, R151) -/

theorem Ramp.aim_eq {r : Ramp} {target : Int} {ramp : Nat} {jump : Bool} :
    r.aim target (if jump then 0 else ramp) =
      if jump = true ∨ ramp = 0 ∨ r.current = target then { current := target, target := target, rate := 0 }
      else { current := r.current, target := target, rate := ((target - r.current).natAbs + ramp - 1) / ramp } := by
  cases jump
  · simp only [Bool.false_eq_true, false_or, if_false]
    rfl
  · simp only [Ramp.aim, if_true, true_or]

/-! ### One action -/

section
variable {s : State} {i : ScreenIx} {x : CueContext} {jump : Bool} {index : Nat} {a : CueAction}

theorem State.performAction_of_fault {f : CueFault} (h : s.actionFault i a = some f) :
    s.performAction i x jump index a =
      (s.post .cueFault i (x.bytes ++ [BitVec.ofNat 8 index, BitVec.ofNat 8 a.kindCode, BitVec.ofNat 8 f.code]), false) := by
  rw [State.performAction, h]
  rfl

theorem State.performAction_of_valid (h : s.actionFault i a = none) :
    s.performAction i x jump index a = (s.applyAction i x jump a, true) := by
  rw [State.performAction, h]

/-- A line action: on a CUE output of the screen it sets the level and the pulse, on another line it is at fault. -/
theorem State.performAction_of_line {l : LineIx} {op : LineOperation}
    (happly : s.applyAction i x jump a = s.operateLine l op)
    (hfault : s.actionFault i a = if (s.line l).cueScreen = some i then none else some .notCueLine) :
    s.performAction i x jump index a =
      if (s.line l).cueScreen = some i then
        ({ s with lines := s.lines.set l ((s.line l).operate s.time op) }, true)
      else
        (s.post .cueFault i (x.bytes ++ [BitVec.ofNat 8 index, BitVec.ofNat 8 a.kindCode, 0x01]), false) := by
  by_cases hcue : (s.line l).cueScreen = some i
  · rw [if_pos hcue] at hfault ⊢
    rw [State.performAction_of_valid hfault, happly]
    rfl
  · rw [if_neg hcue] at hfault ⊢
    exact State.performAction_of_fault hfault

theorem State.actionFault_preset {target : Target} :
    s.actionFault i (.preset target) = if s.targetEmpty target then some .emptyPreset else none := rfl

/-! ### The actions of a cue, one after the other (R150, R151) -/

theorem State.performAll_eq {k : Nat} {l : List CueAction} :
    s.performAll i x k l = (l.zipIdx k).foldl (fun t p => (t.performAction i x false p.2 p.1).1) s := by
  induction l generalizing s k with
  | nil => rfl
  | cons a rest ih => exact ih

/-- One turn of a passed cue: a STATE action is performed, and counted when it is applied; another is dropped. -/
def passedTurn (i : ScreenIx) (x : CueContext) (r : State × Nat) (p : CueAction × Nat) : State × Nat :=
  if p.1.isState then
    let done := r.1.performAction i x true p.2 p.1
    (done.1, if done.2 then r.2 + 1 else r.2)
  else r

theorem State.applyPassed_eq_add {k n : Nat} {l : List CueAction} :
    (l.zipIdx k).foldl (passedTurn i x) (s, n) =
      ((s.applyPassed i x k l).1, n + (s.applyPassed i x k l).2) := by
  induction l generalizing s k n with
  | nil => rfl
  | cons a rest ih =>
    rw [List.zipIdx_cons, List.foldl_cons, State.applyPassed, passedTurn]
    cases hstate : a.isState with
    | false => exact ih
    | true =>
      simp only [if_true]
      rw [ih]
      refine Prod.ext rfl ?_
      dsimp only
      split <;> omega

theorem State.applyPassed_eq {k : Nat} {l : List CueAction} :
    s.applyPassed i x k l = (l.zipIdx k).foldl (passedTurn i x) (s, 0) := by
  rw [State.applyPassed_eq_add, Nat.zero_add]

/-- Actions of class EVENT alone: a passed cue drops them all. -/
theorem State.applyPassed_of_events {k : Nat} {l : List CueAction} (h : ∀ a ∈ l, a.isState = false) :
    s.applyPassed i x k l = (s, 0) := by
  induction l generalizing k with
  | nil => rfl
  | cons a rest ih =>
    rw [State.applyPassed, h a (List.mem_cons_self ..), if_neg Bool.false_ne_true,
      ih fun b hb => h b (List.mem_cons_of_mem _ hb)]

/-! ### The end of a cue -/

/-- What a cue's end does to the screen: its counter and the state of the entry of its number. -/
def State.ended (s : State) (i : ScreenIx) (number : Nat) (live : Counters → Counters) (state : CueState) : State :=
  { s with
    screens := s.screens.set i
      { s.scr i with
        live := live (s.scr i).live,
        cues := (s.scr i).cues.map (fun y => if y.number = number then { y with state := state } else y) } }

theorem State.modCues_eq_put {f : List CueEntry → List CueEntry} :
    s.modCues i f = s.put i { s.scr i with cues := f (s.scr i).cues } [] := State.modScreen_eq_put

theorem State.setCueState_eq {n : Nat} {state : CueState} : s.setCueState i n state = s.ended i n id state := rfl

theorem State.setCueState_modLive {n : Nat} {state : CueState} {live : Counters → Counters} :
    (s.modLive i live).setCueState i n state = s.ended i n live state := by
  rw [State.setCueState, State.modCues_eq_put, State.modLive_eq_put, State.scr_put_same, State.put_put, List.append_nil,
    State.put_nil]
  rfl

theorem State.passCue_eq {e : CueEntry} :
    s.passCue i x e =
      let applied := s.applyPassed i x 1 e.actions
      (applied.1.post .cuePassed i (x.bytes ++ u16 applied.2)).ended i e.number
        (fun v => { v with cuesPassed := bumped v.cuesPassed }) .passed := State.setCueState_modLive

/-- A cue fired: its record and its count, then its actions. -/
theorem State.fireWith_eq {l : List CueAction} :
    s.fireWith i x l =
      (l.zipIdx 1).foldl (fun t p => (t.performAction i x false p.2 p.1).1)
        { s.post .cueFired i (x.bytes ++ u16 l.length) with
          screens := s.screens.set i
            { s.scr i with live := { (s.scr i).live with cuesFired := bumped (s.scr i).live.cuesFired } } } := by
  rw [State.fireWith, State.performAll_eq, State.postCue, State.modLive_post]

theorem State.fireCue_eq {e : CueEntry} :
    s.fireCue i x e = (s.fireWith i x e.actions).ended i e.number id .fired := rfl

theorem State.skipCue_eq {e : CueEntry} {c : Condition} :
    s.skipCue i x e c =
      (s.post .cueSkipped i (x.bytes ++ [BitVec.ofNat 8 c.kindCode, BitVec.ofNat 8 (s.found i c)])).ended i e.number id
        .skipped := rfl

/-- An ending on a state that only posted since `s`: the screen is that of `s`. -/
theorem State.ended_post {what : EventType} {detail : List Byte} {n : Nat} {live : Counters → Counters}
    {state : CueState} :
    (s.post what i detail).ended i n live state =
      { s.post what i detail with
        screens := s.screens.set i
          { s.scr i with
            live := live (s.scr i).live,
            cues := (s.scr i).cues.map (fun y => if y.number = n then { y with state := state } else y) } } := by
  obtain ⟨_, _, hpost⟩ := State.postAt_frame (s := s) (what := what) (screen := some i)
    (position := some (s.scr i).clock.position) (detail := detail)
  rw [State.post_eq_postAt, hpost]
  rfl

/-! ### Conditions (R152) -/

theorem State.failing_eq_none_iff {e : CueEntry} :
    s.failing i e = none ↔ ∀ c, e.condition = some c → s.holds i c = true := by
  simp [State.failing, Option.filter_eq_none_iff]

theorem State.failing_of_false {e : CueEntry} {c : Condition} (hc : e.condition = some c) (hfalse : s.holds i c = false) :
    s.failing i e = some c := by
  simp [State.failing, hc, hfalse]

theorem State.reachCue_of_met {window new : Nat} {e : CueEntry} (h : s.failing i e = none) :
    s.reachCue i window new e =
      if e.time + window ≤ new then s.passCue i (e.context .list) e else s.fireCue i (e.context .list) e := by
  rw [State.reachCue, h]

theorem State.reachCue_of_failing {window new : Nat} {e : CueEntry} {c : Condition} (h : s.failing i e = some c) :
    s.reachCue i window new e = s.skipCue i (e.context .list) e c := by
  rw [State.reachCue, h]

end

end Sys2Proof.Machine
end

section
/-! O28: what fired, passed and skipped cues, the immediate slot and each action do. -/

namespace Sys2Proof.Machine

section
variable {s : State} {i : ScreenIx}

/-! ### The immediate slot (R162) -/

/-- The state with the immediate slot of the screen emptied. -/
def State.emptied (t : State) (i : ScreenIx) : State :=
  { t with screens := t.screens.set i { t.scr i with immediate := .empty } }

theorem State.performSlot_of_empty (h : (s.scr i).immediate = .empty) : s.performSlot i = s := by
  rw [State.performSlot, h]

theorem State.performSlot_of_actions {l : List CueAction} {source : FireSource}
    (h : (s.scr i).immediate = .actions l source) :
    s.performSlot i =
      (s.fireWith i { source := .immediate source, number := none, time := none } l).emptied i := by
  rw [State.performSlot, h]
  rfl

theorem State.performSlot_of_missing {n : Nat} {source : FireSource} (h : (s.scr i).immediate = .cue n source)
    (hmissing : s.findCue i n = none) :
    s.performSlot i =
      (s.post .cueFault i
        (CueContext.bytes { source := .immediate source, number := some n, time := none } ++ [0x00, 0xFF, 0x02])).emptied
        i := by
  rw [State.performSlot, h]
  dsimp only
  rw [State.performContent, hmissing]
  rfl

theorem State.performSlot_of_met {n : Nat} {source : FireSource} {e : CueEntry} (h : (s.scr i).immediate = .cue n source)
    (hfound : s.findCue i n = some e) (hmet : s.failing i e = none) :
    s.performSlot i = (s.fireCue i (e.context (.immediate source)) e).emptied i := by
  rw [State.performSlot, h]
  dsimp only
  rw [State.performContent, hfound]
  dsimp only
  rw [hmet]
  rfl

theorem State.performSlot_of_failing {n : Nat} {source : FireSource} {e : CueEntry} {c : Condition}
    (h : (s.scr i).immediate = .cue n source) (hfound : s.findCue i n = some e) (hfails : s.failing i e = some c) :
    s.performSlot i = (s.skipCue i (e.context (.immediate source)) e c).emptied i := by
  rw [State.performSlot, h]
  dsimp only
  rw [State.performContent, hfound]
  dsimp only
  rw [hfails]
  rfl

/-! ### Actions on the blocks of the screen -/

variable {x : CueContext} {jump : Bool} {index : Nat}

theorem State.performAction_fader {position ramp : Nat} :
    s.performAction i x jump index (.fader position ramp) =
      (s.modGain i (fun g => g.setFader position (if jump then 0 else ramp)), true) := rfl

theorem State.performAction_offset {mask : Byte} {gs : Int} {ramp : Nat} :
    s.performAction i x jump index (.offset mask gs ramp) =
      (s.modGain i (fun g => g.setOffsets mask gs (if jump then 0 else ramp)), true) := rfl

theorem State.performAction_preset {target : Target} :
    s.performAction i x jump index (.preset target) =
      if s.targetEmpty target then
        (s.post .cueFault i (x.bytes ++ [BitVec.ofNat 8 index, BitVec.ofNat 8 (CueAction.preset target).kindCode, 0x00]),
          false)
      else if (s.scr i).equaliser.switch = .idle then (s.presetTried i target, true)
      else (s.makePending i target, true) := by
  by_cases hempty : s.targetEmpty target = true
  · rw [if_pos hempty]
    exact State.performAction_of_fault (State.actionFault_preset.trans (if_pos hempty))
  · rw [if_neg hempty, State.performAction_of_valid (State.actionFault_preset.trans (if_neg hempty)), ← apply_ite (·, true)]
    exact congrArg (·, true) State.selectedByAction_eq

end

/-- Settles O28: the equations of the cue engine, read with the codes of its records. -/
theorem passedCueDropsEventActions : Obligations.PassedCueDropsEventActions := by
  refine ⟨fun s i e hevents => ?_, fun source number time => ?_, fun s i x e => ?_, fun s i => ?_,
    fun s i x jump index a => ?_⟩
  · intro posted c
    rw [State.passCue_eq, State.applyPassed_of_events hevents]
    dsimp only
    rw [State.ended_post]
    rfl
  · cases source with
    | list => rfl
    | immediate origin => cases origin <;> rfl
  · intro ended fired counted performed applied
    refine ⟨?_, ?_, fun c => ?_⟩
    · rw [State.fireCue_eq, State.fireWith_eq]
      rfl
    · rw [State.passCue_eq, State.applyPassed_eq]
      rfl
    · rw [State.skipCue_eq]
      cases c <;> rfl
  · intro met emptied
    have hmet (c : Condition) : met c ↔ s.holds i c = true := by
      cases c <;> simp [met, State.holds]
    have hall (e : CueEntry) : (∀ c, e.condition = some c → met c) ↔ s.failing i e = none := by
      simp only [hmet, State.failing_eq_none_iff]
    have hsome {e : CueEntry} {c : Condition} (hc : e.condition = some c) (hfalse : ¬ met c) : s.failing i e = some c :=
      State.failing_of_false hc (Bool.eq_false_iff.mpr (mt (hmet c).mpr hfalse))
    refine ⟨fun window new e => ?_, State.performSlot_of_empty, fun l source h => ?_, fun n source h => ?_⟩
    · intro x
      exact ⟨fun h => State.reachCue_of_met ((hall e).mp h), fun c hc h => State.reachCue_of_failing (hsome hc h)⟩
    · intro x fired counted
      rw [State.performSlot_of_actions h, State.fireWith_eq]
      rfl
    · refine ⟨fun hmissing => State.performSlot_of_missing h ?_, fun e hfound => ?_⟩
      · exact State.findCue_eq_none.mpr hmissing
      · intro x
        exact ⟨fun hm => State.performSlot_of_met h hfound ((hall e).mp hm),
          fun c hc hm => State.performSlot_of_failing h hfound (hsome hc hm)⟩
  · intro c put fault law aim line
    have haim (r : Ramp) (target : Int) (ramp : Nat) : aim r target ramp = r.aim target (if jump then 0 else ramp) :=
      Ramp.aim_eq.symm
    cases a with
    | fader position ramp =>
      rw [State.performAction_fader]
      dsimp only
      rw [haim]
      rfl
    | offset mask gs ramp =>
      rw [State.performAction_offset]
      simp only [haim]
      rfl
    | mute mask on => rfl
    | preset target =>
      rw [State.performAction_preset]
      dsimp only
      by_cases hempty : s.targetEmpty target = true
      · rw [if_pos hempty, if_pos (State.targetEmpty_iff.mp hempty)]
      · rw [if_neg hempty, if_neg (mt State.targetEmpty_iff.mpr hempty)]
        exact ite_congr rfl (fun _ => rfl) fun _ => congrArg (·, true) State.makePending_eq
    | format f => rfl
    | source l => rfl
    | lineSet l => exact State.performAction_of_line (l := l) (op := .set) rfl rfl
    | lineClear l => exact State.performAction_of_line (l := l) (op := .clear) rfl rfl
    | lineToggle l => exact State.performAction_of_line (l := l) (op := .toggle) rfl rfl
    | linePulse l width => exact State.performAction_of_line (l := l) (op := .pulse width) rfl rfl
    | clock k =>
      refine (State.performAction_of_valid rfl).trans ?_
      exact congrArg (·, true) State.clockCommand_eq
    | mark n => rfl

end Sys2Proof.Machine
end

section
/-! O27: the walk of a movement over the cue list (R149, R153). The actions leave the list alone, and each reached entry's
turn sets the state of the entry of its number. -/

namespace Sys2Proof.Machine

section
variable {s : State} {i : ScreenIx} {x : CueContext}

/-! ### What the actions leave -/

theorem State.cues_carryOut {target : Target} {d : Decision} :
    ((s.carryOut i target d).scr i).cues = (s.scr i).cues := by
  cases d with
  | crossfade => rw [State.carryOut, State.startCrossfade_eq, State.scr_put_same]
  | cut => rw [State.carryOut, State.startCut_eq, State.scr_put_same]
  | unchanged | pending | noBands => rfl

theorem State.cues_makePending {target : Target} : ((s.makePending i target).scr i).cues = (s.scr i).cues := by
  unfold State.makePending
  dsimp only
  split <;> simp

theorem State.cues_presetTried {target : Target} : ((s.presetTried i target).scr i).cues = (s.scr i).cues := by
  rw [State.presetTried_eq]
  split
  · rw [State.postRefused, State.scr_post]
  · exact State.cues_carryOut

theorem State.cues_applyAction {jump : Bool} {a : CueAction} :
    ((s.applyAction i x jump a).scr i).cues = (s.scr i).cues := by
  cases a with
  | preset target =>
    unfold State.applyAction
    dsimp only
    rw [State.selectedByAction_eq]
    split
    · exact State.cues_presetTried
    · exact State.cues_makePending
  | clock k =>
    unfold State.applyAction
    dsimp only
    rw [State.clockCommand_eq, State.scr_commanded]
    simp
  | fader position ramp | offset mask gs ramp | mute mask on | format f | source l =>
    simp [State.applyAction, State.forceFormat, State.stageSource]
  | lineSet l | lineClear l | lineToggle l | linePulse l width => simp [State.applyAction]
  | mark n => simp [State.applyAction, State.postCue]

theorem State.cues_performAction {jump : Bool} {index : Nat} {a : CueAction} :
    ((s.performAction i x jump index a).1.scr i).cues = (s.scr i).cues := by
  unfold State.performAction
  split
  · simp [State.postCue]
  · exact State.cues_applyAction

theorem State.cues_performAll {k : Nat} {l : List CueAction} :
    ((s.performAll i x k l).scr i).cues = (s.scr i).cues := by
  induction l generalizing s k with
  | nil => rfl
  | cons a rest ih => exact ih.trans State.cues_performAction

theorem State.cues_applyPassed {k : Nat} {l : List CueAction} :
    ((s.applyPassed i x k l).1.scr i).cues = (s.scr i).cues := by
  induction l generalizing s k with
  | nil => rfl
  | cons a rest ih =>
    unfold State.applyPassed
    split
    · exact ih.trans State.cues_performAction
    · exact ih

/-! ### The turn of one entry -/

/-- The list with the entry of a number in a state. -/
def withCueState (n : Nat) (state : CueState) (e : CueEntry) : CueEntry :=
  if e.number = n then { e with state := state } else e

theorem State.cues_ended {n : Nat} {live : Counters → Counters} {state : CueState} :
    ((s.ended i n live state).scr i).cues = (s.scr i).cues.map (withCueState n state) := by
  rw [State.ended, State.scr_set rfl, if_pos rfl]
  rfl

/-- The states in which its turn may leave an entry: FIRED, PASSED or SKIPPED, and without a condition PASSED at or below new
less the pass window, else FIRED. -/
def CueEntry.Outcome (window new : Nat) (e : CueEntry) (state : CueState) : Prop :=
  (state = .fired ∨ state = .passed ∨ state = .skipped) ∧
    (e.condition = none → state = if e.time + window ≤ new then .passed else .fired)

theorem State.cues_passCue {e : CueEntry} :
    ((s.passCue i x e).scr i).cues = (s.scr i).cues.map (withCueState e.number .passed) := by
  rw [State.passCue_eq]
  dsimp only
  rw [State.cues_ended, State.scr_post, State.cues_applyPassed]

theorem State.cues_fireCue {e : CueEntry} :
    ((s.fireCue i x e).scr i).cues = (s.scr i).cues.map (withCueState e.number .fired) := by
  have hcues : ((s.fireWith i x e.actions).scr i).cues = (s.scr i).cues := by
    rw [State.fireWith, State.cues_performAll]
    simp [State.postCue]
  rw [State.fireCue_eq, State.cues_ended, hcues]

theorem State.cues_skipCue {e : CueEntry} {c : Condition} :
    ((s.skipCue i x e c).scr i).cues = (s.scr i).cues.map (withCueState e.number .skipped) := by
  rw [State.skipCue_eq, State.cues_ended, State.scr_post]

theorem State.cues_reachCue {window new : Nat} {e : CueEntry} :
    ∃ state, e.Outcome window new state ∧
      ((s.reachCue i window new e).scr i).cues = (s.scr i).cues.map (withCueState e.number state) := by
  cases hfails : s.failing i e with
  | some c =>
    have hcondition : e.condition ≠ none := fun h => by simp [State.failing, h] at hfails
    refine ⟨.skipped, ⟨.inr (.inr rfl), fun h => absurd h hcondition⟩, ?_⟩
    rw [State.reachCue_of_failing hfails, State.cues_skipCue]
  | none =>
    rw [State.reachCue_of_met hfails]
    by_cases hpassed : e.time + window ≤ new
    · rw [if_pos hpassed]
      exact ⟨.passed, ⟨.inr (.inl rfl), fun _ => (if_pos hpassed).symm⟩, State.cues_passCue⟩
    · rw [if_neg hpassed]
      exact ⟨.fired, ⟨.inl rfl, fun _ => (if_neg hpassed).symm⟩, State.cues_fireCue⟩

/-! ### The walk over the reached entries -/

/-- What the walk over the entries `reached` does to an entry of the list: its number's turn sets its state, and without one
it stays. -/
def CueEntry.Walked (window new : Nat) (reached : List CueEntry) (e e' : CueEntry) : Prop :=
  ∃ state, e' = { e with state := state } ∧
    (∀ r ∈ reached, r.number = e.number → r.Outcome window new state) ∧
    ((∀ r ∈ reached, r.number ≠ e.number) → state = e.state)

theorem CueEntry.walked_cons {window new : Nat} {r e e' : CueEntry} {rest : List CueEntry} {state : CueState}
    (houtcome : r.Outcome window new state) (hfresh : ∀ q ∈ rest, q.number ≠ r.number)
    (h : CueEntry.Walked window new rest (withCueState r.number state e) e') :
    CueEntry.Walked window new (r :: rest) e e' := by
  obtain ⟨last, rfl, hturn, hstays⟩ := h
  by_cases hnumber : e.number = r.number
  · have hset : withCueState r.number state e = { e with state := state } := if_pos hnumber
    rw [hset] at hturn hstays ⊢
    have hlast : last = state := hstays fun q hq hqe => hfresh q hq (hqe.trans hnumber)
    refine ⟨last, rfl, fun q hq hqe => ?_, fun hnone => absurd hnumber.symm (hnone r (List.mem_cons_self ..))⟩
    rcases List.mem_cons.mp hq with rfl | hq
    · rw [hlast]
      exact houtcome
    · exact absurd (hqe.trans hnumber) (hfresh q hq)
  · have hset : withCueState r.number state e = e := if_neg hnumber
    rw [hset] at hturn hstays ⊢
    refine ⟨last, rfl, fun q hq hqe => ?_, fun hnone => hstays fun q hq => hnone q (List.mem_cons_of_mem _ hq)⟩
    rcases List.mem_cons.mp hq with rfl | hq
    · exact absurd hqe.symm hnumber
    · exact hturn q hq hqe

theorem State.cues_walk {window new : Nat} {reached : List CueEntry} (hnodup : (reached.map CueEntry.number).Nodup) :
    ∃ walk : CueEntry → CueEntry,
      ((reached.foldl (fun t e => t.reachCue i window new e) s).scr i).cues = (s.scr i).cues.map walk ∧
        ∀ e, CueEntry.Walked window new reached e (walk e) := by
  induction reached generalizing s with
  | nil => exact ⟨id, (List.map_id _).symm, fun e => ⟨e.state, rfl, nofun, fun _ => rfl⟩⟩
  | cons r rest ih =>
    obtain ⟨hfresh, hrest⟩ := List.nodup_cons.mp (List.map_cons ▸ hnodup)
    obtain ⟨state, houtcome, hcues⟩ := State.cues_reachCue (s := s) (i := i) (window := window) (new := new) (e := r)
    obtain ⟨walk, hmapped, hwalk⟩ := ih (s := s.reachCue i window new r) hrest
    rw [hcues, List.map_map] at hmapped
    exact ⟨_, hmapped, fun e => CueEntry.walked_cons houtcome
      (fun q hq heq => hfresh (heq ▸ List.mem_map_of_mem hq)) (hwalk _)⟩

/-! ### The evaluation of a movement -/

variable {m : Movement}

theorem State.rearm_eq {p : CueEntry → Bool} :
    s.rearm i p =
      { s with
        screens := s.screens.set i
          { s.scr i with cues := (s.scr i).cues.map (fun e => if p e then { e with state := .armed } else e) } } := rfl

theorem State.evaluateCues_forward (hforward : m.old < m.new) (hwrapped : m.wrapped = false) :
    s.evaluateCues i m =
      ((s.scr i).cues.filter (fun e => e.reachedBy m)).foldl
        (fun t e => t.reachCue i (s.scr i).clock.passWindow m.new e) s := by
  simp only [State.evaluateCues, hwrapped, Bool.false_eq_true, if_false, if_pos hforward]

theorem State.evaluateCues_backward (hbackward : m.new < m.old) (hwrapped : m.wrapped = false) :
    s.evaluateCues i m = s.rearm i (fun e => decide (m.new < e.time)) := by
  simp only [State.evaluateCues, hwrapped, Bool.false_eq_true, if_false, if_neg (Nat.lt_asymm hbackward), if_pos hbackward]

theorem State.evaluateCues_equal (hequal : m.new = m.old) (hwrapped : m.wrapped = false) : s.evaluateCues i m = s := by
  simp only [State.evaluateCues, hwrapped, Bool.false_eq_true, if_false, hequal, Nat.lt_irrefl]

theorem State.evaluateCues_wrapped (hwrapped : m.wrapped = true) :
    s.evaluateCues i m = (s.evaluateCues i { m with wrapped := false }).rearm i (fun _ => true) := by
  simp only [State.evaluateCues, hwrapped, Bool.false_eq_true, if_false, if_true]
  rfl

theorem CueEntry.reachedBy_eq {e : CueEntry} :
    e.reachedBy m = decide (e.state = .armed ∧ m.old < e.time ∧ e.time ≤ m.new) := by
  rw [CueEntry.reachedBy, Bool.decide_and, Bool.decide_and, Bool.and_assoc]

theorem eq_of_nodup_map {α β : Type} {f : α → β} {l : List α} (hnodup : (l.map f).Nodup) {a b : α} (ha : a ∈ l)
    (hb : b ∈ l) (h : f a = f b) : a = b := by
  induction l with
  | nil => cases ha
  | cons c l ih =>
    obtain ⟨hc, hrest⟩ := List.nodup_cons.mp (List.map_cons ▸ hnodup)
    rcases List.mem_cons.mp ha with hac | hal <;> rcases List.mem_cons.mp hb with hbc | hbl
    · exact hac.trans hbc.symm
    · exact absurd (hac ▸ h ▸ List.mem_map_of_mem hbl) hc
    · exact absurd (hbc ▸ h ▸ List.mem_map_of_mem hal) hc
    · exact ih hrest hal hbl

/-- The walk over the entries that a movement reaches leaves each entry as R149 to R152 say. -/
theorem CueEntry.leaves_of_walked {cues : List CueEntry} (hnodup : (cues.map CueEntry.number).Nodup) {window : Nat}
    {e e' : CueEntry} (he : e ∈ cues)
    (h : CueEntry.Walked window m.new (cues.filter (fun e => e.reachedBy m)) e e') : e.leaves m window e' := by
  obtain ⟨state, rfl, hturn, hstays⟩ := h
  unfold CueEntry.leaves
  by_cases hreached : e.state = .armed ∧ m.old < e.time ∧ e.time ≤ m.new
  · rw [if_pos hreached]
    have hmem : e ∈ cues.filter (fun e => e.reachedBy m) :=
      List.mem_filter.mpr ⟨he, CueEntry.reachedBy_eq.trans (decide_eq_true hreached)⟩
    obtain ⟨hstate, hwindow⟩ := hturn e hmem rfl
    refine ⟨?_, fun hnone => by rw [hwindow hnone]⟩
    rcases hstate with rfl | rfl | rfl
    · exact .inl rfl
    · exact .inr (.inl rfl)
    · exact .inr (.inr rfl)
  · rw [if_neg hreached]
    have hstate : state = e.state := hstays fun r hr hnumber => by
      obtain ⟨hin, hby⟩ := List.mem_filter.mp hr
      have hsame : r = e := eq_of_nodup_map hnodup hin he hnumber
      rw [hsame, CueEntry.reachedBy_eq] at hby
      exact hreached (of_decide_eq_true hby)
    rw [hstate]

end

/-- Settles O27: the walk's turns set the states of their own numbers, and the re-arming is a map over the list. -/
theorem movementReachesCues : Obligations.MovementReachesCues := by
  refine ⟨fun s i m hforward hwrapped hnodup => ?_, fun s i m => ⟨fun hback hwrapped => ?_, fun hequal hwrapped => ?_,
    fun hwrapped => ?_⟩, fun s i m => ⟨fun hforward hwrapped => ?_, fun hwrapped => ?_⟩⟩
  · have hwalk := State.cues_walk (s := s) (i := i) (window := (s.scr i).clock.passWindow) (new := m.new)
      (reached := (s.scr i).cues.filter (fun e => e.reachedBy m)) (hnodup.sublist (List.filter_sublist.map _))
    rw [← State.evaluateCues_forward hforward hwrapped] at hwalk
    obtain ⟨walk, hmapped, hwalk⟩ := hwalk
    rw [hmapped]
    refine ⟨List.length_map _, fun p hp => ?_⟩
    rw [← List.map_prod_left_eq_zip] at hp
    obtain ⟨e, he, rfl⟩ := List.mem_map.mp hp
    exact CueEntry.leaves_of_walked hnodup he (hwalk e)
  · rw [State.evaluateCues_backward hback hwrapped, State.rearm_eq]
    simp only [decide_eq_true_eq]
  · exact State.evaluateCues_equal hequal hwrapped
  · rw [State.evaluateCues_wrapped hwrapped]
    simp [State.rearm]
  · rw [State.evaluateCues_forward hforward hwrapped]
    simp only [CueEntry.reachedBy_eq]
  · exact State.evaluateCues_wrapped hwrapped

end Sys2Proof.Machine
end

section
/-! What each stage of a boundary touches of its screen and of the lines, and the boundary of a screen without cues. -/

namespace Sys2Proof.Machine

section
variable {s : State} {i : ScreenIx} {t : Taken}

/-! ### The stages one by one -/

theorem State.post_lines {what : EventType} {detail : List Byte} : (s.post what i detail).lines = s.lines :=
  State.postAt_lines

theorem State.lines_take : (s.take i).1.lines = s.lines := IntakeWork.take.noLines

theorem State.scr_moveClock :
    (s.moveClock i t).1.scr i =
      { s.scr i with clock := ((s.scr i).clock.move t.clockPosition).1.clock } := by
  unfold State.moveClock
  dsimp only
  cases hresumed : ((s.scr i).clock.move t.clockPosition).1.resumed <;>
    cases houtcome : ((s.scr i).clock.move t.clockPosition).1.outcome <;> simp [State.postClock]

theorem State.lines_moveClock :
    (s.moveClock i t).1.lines =
      if ((s.scr i).clock.move t.clockPosition).1.outcome = .ended then s.lines.map (Line.stopFor i) else s.lines := by
  unfold State.moveClock
  dsimp only
  cases hresumed : ((s.scr i).clock.move t.clockPosition).1.resumed <;>
    cases houtcome : ((s.scr i).clock.move t.clockPosition).1.outcome <;>
      simp [State.postClock, State.post_lines, State.applyStopPolicy]

theorem State.scr_decodeFormat :
    (s.decodeFormat i t).scr i = { s.scr i with decoder := (s.scr i).decoder.changed t } := by
  by_cases h : (s.scr i).decoder.nextFormat t = (s.scr i).decoder.inForce
  · rw [State.decodeFormat_of_eq h, Decoder.changed_of_eq h]
  · rw [State.decodeFormat_of_ne h, Decoder.changed_of_ne h]
    simp

theorem State.lines_decodeFormat : (s.decodeFormat i t).lines = s.lines := by
  unfold State.decodeFormat
  dsimp only
  split
  · rfl
  · rw [State.post_lines, State.modDecoder_lines]

theorem State.scr_decode : ∃ d, (s.decode i t).1.scr i = { s.scr i with decoder := d } := by
  by_cases h : (s.scr i).decoder.nextFormat t = some .matrix
  · refine ⟨((s.scr i).decoder.changed t).matrixBlock t, ?_⟩
    rw [State.decode_of_matrix h]
    simp [State.scr_decodeFormat]
  · rw [State.decode_state_of_routed h]
    exact ⟨_, State.scr_decodeFormat⟩

theorem State.lines_decode : (s.decode i t).1.lines = s.lines := by
  by_cases h : (s.scr i).decoder.nextFormat t = some .matrix
  · rw [State.decode_of_matrix h]
    exact State.lines_decodeFormat
  · rw [State.decode_state_of_routed h, State.lines_decodeFormat]

/-- The count of a crossfade that runs a block. -/
def Equaliser.counted (e : Equaliser) : Nat := if e.switch = .crossfade then e.count + 1 else e.count

theorem State.scr_equalise {buses : Vector (List Int) 8} :
    ∃ chains inChains,
      (s.equalise i buses).1.scr i =
        { s.scr i with
          equaliser :=
            { (s.scr i).equaliser with
              count := (s.scr i).equaliser.counted, chains := chains, inChains := inChains } } := by
  unfold State.equalise Equaliser.counted
  dsimp only
  by_cases h : (s.scr i).equaliser.switch = .crossfade <;> simp [h]

theorem State.lines_equalise {buses : Vector (List Int) 8} : (s.equalise i buses).1.lines = s.lines := rfl

theorem State.lines_gainStage {centre surround : Int} {e : Equalised} :
    (s.gainStage i centre surround e).1.lines = s.lines := by
  rw [State.gainStage_eq]
  rfl

/-! ### The switch in progress (R78, R81, R83) -/

theorem State.startPending_of_none (h : (s.scr i).equaliser.waiting = none) : s.startPending i = s := by
  rw [State.startPending, h]

theorem State.startPending_of_some {target : Target} (h : (s.scr i).equaliser.waiting = some target) :
    s.startPending i = (s.modEqualiser i (fun e => { e with waiting := none })).presetTried i target := by
  rw [State.startPending, h, State.presetTried_eq]
  dsimp only
  generalize s.modEqualiser i (fun e => { e with waiting := none }) = u
  cases u.decideIdle i target <;> rfl

/-- What a completion posts and decides (R83, R85). -/
theorem State.completion_eq {method : Nat} {left : Target} :
    (s.postDone i method left).startPending i = s.presetCompleted i (BitVec.ofNat 8 method) left := by
  have hwaiting : ((s.postDone i method left).scr i).equaliser.waiting = (s.scr i).equaliser.waiting := by
    rw [State.postDone, State.scr_post]
  unfold State.presetCompleted
  cases h : (s.scr i).equaliser.waiting with
  | none => exact State.startPending_of_none (hwaiting.trans h)
  | some target => exact State.startPending_of_some (hwaiting.trans h)

theorem State.crossfadeDone_eq :
    s.crossfadeDone i =
      State.presetCompleted
        (s.modEqualiser i (fun e =>
          { e with active := e.incoming.getD none, incoming := none, count := 0, switch := .idle, chains := e.inChains,
                   inChains := noChains }))
        i 0x01 (s.scr i).equaliser.active := State.completion_eq

theorem State.cutDone_eq :
    s.cutDone i =
      State.presetCompleted (s.modEqualiser i (fun e => { e with switch := .idle, phase := none, left := none }))
        i 0x02 (s.scr i).equaliser.left := State.completion_eq

/-- A change of the equaliser and the gain terms of screen i, records apart: what a switch's start or end does. -/
structure State.Switched (i : ScreenIx) (s t : State) : Prop where
  scr : t.scr i = { s.scr i with equaliser := (t.scr i).equaliser, gain := (t.scr i).gain }
  lines : t.lines = s.lines

theorem State.Switched.refl : State.Switched i s s := ⟨rfl, rfl⟩

theorem State.Switched.trans {u v : State} (h : State.Switched i s u) (h' : State.Switched i u v) :
    State.Switched i s v := by
  refine ⟨?_, h'.lines.trans h.lines⟩
  rw [h'.scr, h.scr]

theorem State.switched_post {what : EventType} {detail : List Byte} : State.Switched i s (s.post what i detail) :=
  ⟨by rw [State.scr_post], State.post_lines⟩

theorem State.switched_put {e : Equaliser} {g : Gain} {pace : List EthernetFrame} :
    State.Switched i s (s.put i { s.scr i with equaliser := e, gain := g } pace) :=
  ⟨by rw [State.scr_put_same], rfl⟩

theorem State.switched_modEqualiser {f : Equaliser → Equaliser} : State.Switched i s (s.modEqualiser i f) :=
  ⟨by simp, rfl⟩

theorem State.switched_carryOut {target : Target} {d : Decision} : State.Switched i s (s.carryOut i target d) := by
  cases d with
  | crossfade =>
    rw [State.carryOut, State.startCrossfade_eq]
    exact State.switched_put
  | cut =>
    rw [State.carryOut, State.startCut_eq]
    exact State.switched_put
  | unchanged | pending | noBands => exact .refl

theorem State.switched_presetTried {target : Target} : State.Switched i s (s.presetTried i target) := by
  rw [State.presetTried_eq]
  split
  · exact State.switched_post
  · exact State.switched_carryOut

theorem State.switched_completion {method : Nat} {left : Target} :
    State.Switched i s (s.presetCompleted i (BitVec.ofNat 8 method) left) := by
  rw [← State.completion_eq]
  have hposted : State.Switched i s (s.postDone i method left) := State.switched_post
  cases h : ((s.postDone i method left).scr i).equaliser.waiting with
  | none => rwa [State.startPending_of_none h]
  | some target =>
    rw [State.startPending_of_some h]
    exact hposted.trans (State.switched_modEqualiser.trans State.switched_presetTried)

/-- The swap of a cut, in one change of its screen. -/
theorem State.swapCut_eq :
    s.swapCut i =
      let e := (s.scr i).equaliser
      let g := (s.scr i).gain
      s.put i
        { s.scr i with
          equaliser :=
            { e with
              active := e.incoming.getD none, incoming := none, delta := 0, phase := some .fadeIn,
              chains := s.freshChains i (e.incoming.getD none), left := e.active },
          gain := { g with switchTerm := { g.switchTerm with target := 0 } } } [] := by
  simp only [State.swapCut, State.aimSwitchTerm, State.modEqualiser, State.modGain, State.modScreen_eq_put, State.put_put,
    State.scr_put_same, List.append_nil]

theorem State.switched_switchProgress : State.Switched i s (s.switchProgress i) := by
  unfold State.switchProgress
  split
  · rw [State.crossfadeDone_eq]
    exact State.switched_modEqualiser.trans State.switched_completion
  · split
    · rw [State.swapCut_eq]
      exact State.switched_put
    · split
      · rw [State.cutDone_eq]
        exact State.switched_modEqualiser.trans State.switched_completion
      · exact .refl

/-! ### The boundary up to the meters -/

theorem State.taken_eq :
    s.taken i =
      (((s.take i).1.moveClock i (s.take i).2).1, (s.take i).2, ((s.take i).1.moveClock i (s.take i).2).2) := rfl

theorem State.scr_taken :
    ∃ intake live,
      (s.taken i).1.scr i =
        { s.scr i with
          intake := intake, live := live, clock := ((s.scr i).clock.move (s.take i).2.clockPosition).1.clock } := by
  have honly := (IntakeWork.take (s := s) (i := i)).only
  rw [State.taken_eq]
  generalize s.take i = r at honly ⊢
  obtain ⟨u, t⟩ := r
  dsimp only at honly ⊢
  rw [State.scr_moveClock, honly]
  exact ⟨_, _, rfl⟩

/-- The screen as the gain stage leaves it: the stages before have each touched their own block. -/
theorem State.scr_gained_eq :
    ∃ intake live decoder lane chains inChains,
      (s.gained i).1.scr i =
        { s.scr i with
          intake := intake, live := live, decoder := decoder, lane := lane,
          clock := ((s.scr i).clock.move (s.take i).2.clockPosition).1.clock,
          equaliser :=
            { (s.scr i).equaliser with
              count := (s.scr i).equaliser.counted, chains := chains, inChains := inChains },
          gain := (s.scr i).gain.step } := by
  obtain ⟨lane, live, hgained⟩ := State.scr_gained (s := s) (i := i)
  have hequalised : ∃ chains inChains decoder intake live,
      (s.equalised i).1.scr i =
        { s.scr i with
          intake := intake, live := live, decoder := decoder,
          clock := ((s.scr i).clock.move (s.take i).2.clockPosition).1.clock,
          equaliser :=
            { (s.scr i).equaliser with
              count := (s.scr i).equaliser.counted, chains := chains, inChains := inChains } } := by
    obtain ⟨intake, live, htaken⟩ := State.scr_taken (s := s) (i := i)
    unfold State.equalised
    generalize s.taken i = r at htaken ⊢
    dsimp only
    obtain ⟨decoder, hdecoded⟩ := State.scr_decode (s := r.1) (i := i) (t := r.2.1)
    generalize r.1.decode i r.2.1 = d at hdecoded ⊢
    obtain ⟨chains, inChains, hequalised⟩ := State.scr_equalise (s := d.1) (i := i) (buses := d.2)
    exact ⟨chains, inChains, decoder, intake, live, by rw [hequalised, hdecoded, htaken]⟩
  obtain ⟨chains, inChains, decoder, intake, _, hequalised⟩ := hequalised
  exact ⟨intake, live, decoder, lane, chains, inChains, by rw [hgained, hequalised]⟩

theorem State.lines_gained : (s.gained i).1.lines = (s.taken i).1.lines := by
  rw [State.gained, State.lines_gainStage, State.equalised]
  generalize s.taken i = r
  rw [State.lines_equalise, State.lines_decode]

theorem State.lines_metered : (s.metered i).lines = (s.taken i).1.lines := by
  rw [State.metered, State.meterBlock, State.modMeters_lines, State.switched_switchProgress.lines, State.lines_gained]

/-- The screen as the meters leave it: the switch in progress has moved the equaliser and the gain terms. -/
theorem State.scr_metered :
    ∃ intake live decoder lane meters,
      (s.metered i).scr i =
        { s.scr i with
          intake := intake, live := live, decoder := decoder, lane := lane, meters := meters,
          clock := ((s.scr i).clock.move (s.take i).2.clockPosition).1.clock,
          equaliser := (((s.gained i).1.switchProgress i).scr i).equaliser,
          gain := (((s.gained i).1.switchProgress i).scr i).gain } := by
  obtain ⟨intake, live, decoder, lane, chains, inChains, hgained⟩ := State.scr_gained_eq (s := s) (i := i)
  have hswitched := (State.switched_switchProgress (s := (s.gained i).1) (i := i)).scr
  rw [hgained] at hswitched
  refine ⟨intake, live, decoder, lane, ((s.metered i).scr i).meters, ?_⟩
  rw [State.metered, State.meterBlock]
  generalize (s.gained i).1.switchProgress i = u at hswitched ⊢
  rw [State.scr_modMeters, if_pos rfl]
  rw [hswitched]

/-! ### A screen without cues -/

theorem State.evaluateCues_nil {m : Movement} (h : (s.scr i).cues = []) : s.evaluateCues i m = s := by
  have hrearm (p : CueEntry → Bool) : s.rearm i p = s := by
    have hself : (s.scr i).cues.map (fun e => if p e then { e with state := .armed } else e) = (s.scr i).cues := by
      rw [h, List.map_nil]
    rw [State.rearm, State.modCues_eq_put, hself]
    exact State.put_self
  simp only [State.evaluateCues, h, List.filter_nil, List.foldl_nil, hrearm, ite_self]

theorem State.beforeClose_quiet (hcues : (s.scr i).cues = []) (hslot : (s.scr i).immediate = .empty) :
    s.beforeClose i = s.metered i := by
  obtain ⟨_, _, _, _, _, hmetered⟩ := State.scr_metered (s := s) (i := i)
  have hcues' : ((s.metered i).scr i).cues = [] := by rw [hmetered]; exact hcues
  have hslot' : ((s.metered i).scr i).immediate = .empty := by rw [hmetered]; exact hslot
  rw [State.beforeClose_eq, State.evaluateCues_nil hcues', State.performSlot_of_empty hslot']

/-! ### The close of an interval leaves the lines -/

theorem State.lines_evaluateAlarm {id : AlarmId} : (s.evaluateAlarm i id).lines = s.lines := by
  have hpost (u : State) (p : AlarmPost) : (u.postAlarm i id p).lines = u.lines := by
    cases p <;> simp [State.postAlarm, State.post_lines]
  unfold State.evaluateAlarm
  dsimp only
  split
  · rfl
  · rw [hpost, State.modAlarms_lines]

theorem State.lines_evaluateGuard : (s.evaluateGuard i).lines = s.lines := by
  unfold State.evaluateGuard State.guardDownStep State.guardUpStep
  dsimp only
  repeat' split
  all_goals simp [State.post_lines]

theorem State.lines_closeInterval : (s.closeInterval i).lines = s.lines := by
  have hfold (ids : List AlarmId) (u : State) : (ids.foldl (fun s id => s.evaluateAlarm i id) u).lines = u.lines := by
    induction ids generalizing u with
    | nil => rfl
    | cons id rest ih => exact (ih _).trans State.lines_evaluateAlarm
  rw [State.closeInterval, State.lines_evaluateGuard, State.evaluateAlarms, hfold, State.readStream, State.modAlarms_lines,
    State.modMeters_lines]

/-! ### The boundary -/

theorem State.lines_boundary_quiet (hcues : (s.scr i).cues = []) (hslot : (s.scr i).immediate = .empty) :
    (s.boundary i).lines = (s.taken i).1.lines := by
  rw [State.boundary, State.beforeClose_quiet hcues hslot]
  generalize hu : s.metered i = u
  have hlines : u.lines = (s.taken i).1.lines := hu ▸ State.lines_metered
  split
  · rw [State.lines_closeInterval, hlines]
  · exact hlines

theorem State.kept_closeInterval :
    ((s.closeInterval i).scr i).clock = (s.scr i).clock ∧
      ((s.closeInterval i).scr i).equaliser = (s.scr i).equaliser ∧
      ((s.closeInterval i).scr i).gain = (s.scr i).gain := by
  obtain ⟨_, _, _, hscr, -⟩ := State.scr_closeInterval (s := s) (i := i)
  rw [hscr]
  exact ⟨rfl, rfl, rfl⟩

/-- The screen after a boundary without cues: its clock, its equaliser and its gain terms are those before the close. -/
theorem State.scr_boundary_quiet (hcues : (s.scr i).cues = []) (hslot : (s.scr i).immediate = .empty) :
    ((s.boundary i).scr i).clock = ((s.scr i).clock.move (s.take i).2.clockPosition).1.clock ∧
      ((s.boundary i).scr i).equaliser = (((s.gained i).1.switchProgress i).scr i).equaliser ∧
      ((s.boundary i).scr i).gain = (((s.gained i).1.switchProgress i).scr i).gain := by
  obtain ⟨_, _, _, _, _, hmetered⟩ := State.scr_metered (s := s) (i := i)
  have hbefore : ((s.metered i).scr i).clock = ((s.scr i).clock.move (s.take i).2.clockPosition).1.clock ∧
      ((s.metered i).scr i).equaliser = (((s.gained i).1.switchProgress i).scr i).equaliser ∧
      ((s.metered i).scr i).gain = (((s.gained i).1.switchProgress i).scr i).gain := by
    rw [hmetered]
    exact ⟨rfl, rfl, rfl⟩
  rw [State.boundary, State.beforeClose_quiet hcues hslot]
  generalize s.metered i = u at hbefore ⊢
  obtain ⟨hclock, hequaliser, hgain⟩ := State.kept_closeInterval (s := u) (i := i)
  split
  · rwa [hclock, hequaliser, hgain]
  · exact hbefore

end

end Sys2Proof.Machine
end

section
/-! O47: the switch in progress at a boundary, and the waiting target that a completion decides. -/

namespace Sys2Proof.Machine

section
variable {s u v : State} {i : ScreenIx} {p q : Target}

/-! ### What the boundary does with a switch in progress (R78, R81) -/

theorem State.switchProgress_eq :
    u.switchProgress i =
      let e := (u.scr i).equaliser
      let term := (u.scr i).gain.switchTerm
      if e.switch = .crossfade ∧ 32 ≤ e.count then u.crossfadeDone i
      else if e.switch = .cut ∧ e.phase = some .fadeOut ∧ term.current = -480 then u.swapCut i
      else if e.switch = .cut ∧ e.phase = some .fadeIn ∧ term.current = 0 then u.cutDone i
      else u := by
  simp only [State.switchProgress, Screen.crossfadeEnds, Screen.cutSwaps, Screen.cutEnds, Bool.and_eq_true,
    decide_eq_true_eq, and_assoc]

theorem State.switchProgress_of_crossfade (hswitch : (u.scr i).equaliser.switch = .crossfade)
    (hcount : 32 ≤ (u.scr i).equaliser.count) : u.switchProgress i = u.crossfadeDone i :=
  State.switchProgress_eq.trans (if_pos ⟨hswitch, hcount⟩)

theorem State.switchProgress_of_fadeOut (hswitch : (u.scr i).equaliser.switch = .cut)
    (hphase : (u.scr i).equaliser.phase = some .fadeOut) (hterm : (u.scr i).gain.switchTerm.current = -480) :
    u.switchProgress i = u.swapCut i := by
  rw [State.switchProgress_eq]
  dsimp only
  rw [if_neg (by simp [hswitch]), if_pos ⟨hswitch, hphase, hterm⟩]

theorem State.switchProgress_of_fadeIn (hswitch : (u.scr i).equaliser.switch = .cut)
    (hphase : (u.scr i).equaliser.phase = some .fadeIn) (hterm : (u.scr i).gain.switchTerm.current = 0) :
    u.switchProgress i = u.cutDone i := by
  rw [State.switchProgress_eq]
  dsimp only
  rw [if_neg (by simp [hswitch]), if_neg (by simp [hphase]), if_pos ⟨hswitch, hphase, hterm⟩]

/-! ### A completion (R83, R85) -/

theorem State.scr_completed_of_none {method : Byte} {left : Target} (h : (u.scr i).equaliser.waiting = none) :
    (u.presetCompleted i method left).scr i = u.scr i := by
  rw [State.presetCompleted, h]
  exact State.scr_postAt

/-- What the table of R76 makes of a target `q` on an IDLE screen whose active preset is `p`, by its requirement, that of
`p` and the free bands. -/
def Screen.Decided (c : Screen) (p q : Target) (new old free : Nat) : Prop :=
  c.equaliser.active = p ∧ c.equaliser.waiting = none ∧
    if q = p then c.equaliser.switch = .idle
    else if new ≤ free then
      c.equaliser.switch = .crossfade ∧ c.equaliser.incoming = some q ∧ c.equaliser.count = 0
    else if new ≤ free + old then
      c.equaliser.switch = .cut ∧ c.equaliser.phase = some .fadeOut ∧ c.equaliser.incoming = some q ∧
        c.equaliser.delta = new - old ∧ c.gain.switchTerm.target = -480
    else c.equaliser.switch = .idle

theorem State.decided_presetTried (hactive : (u.scr i).equaliser.active = p) (hwaiting : (u.scr i).equaliser.waiting = none)
    (hidle : (u.scr i).equaliser.switch = .idle) :
    ((u.presetTried i q).scr i).Decided p q (u.requirement i q) (u.requirement i p) u.bandsFree := by
  unfold State.presetTried State.presetStarted Screen.Decided
  dsimp only
  rw [hactive]
  by_cases hsame : q = p
  · rw [if_pos hsame, if_pos hsame]
    exact ⟨hactive, hwaiting, hidle⟩
  · rw [if_neg hsame, if_neg hsame]
    by_cases hwhole : u.requirement i q ≤ u.bandsFree
    · rw [if_pos hwhole, if_pos hwhole, Option.getD_some, State.scr_set rfl, if_pos rfl]
      exact ⟨rfl, hwaiting, rfl, rfl, rfl⟩
    · rw [if_neg hwhole, if_neg hwhole]
      by_cases honce : u.requirement i q ≤ u.bandsFree + u.requirement i p
      · rw [if_pos honce, if_pos honce, Option.getD_some, State.scr_set rfl, if_pos rfl]
        exact ⟨rfl, hwaiting, rfl, rfl, rfl, rfl, rfl⟩
      · rw [if_neg honce, if_neg honce, Option.getD_none, State.scr_postAt]
        exact ⟨hactive, hwaiting, hidle⟩

/-- Two states of one pool: the same library, the same screens but for `i`, and screen `i` of one layout, IDLE in both with
the same active preset. -/
structure State.SamePool (i : ScreenIx) (s t : State) : Prop where
  library : t.library = s.library
  others : ∀ j, j ≠ i → t.scr j = s.scr j
  mask : (t.scr i).decoder.mask = (s.scr i).decoder.mask
  active : (t.scr i).equaliser.active = (s.scr i).equaliser.active
  idle : (s.scr i).equaliser.switch = .idle
  idle' : (t.scr i).equaliser.switch = .idle

theorem State.SamePool.requirement (h : State.SamePool i u v) : v.requirement i = u.requirement i :=
  State.requirement_congr h.library h.mask

theorem State.SamePool.bandsFree (h : State.SamePool i u v) : v.bandsFree = u.bandsFree := by
  have hheld : v.bandsHeld = u.bandsHeld := by
    funext j
    by_cases hj : j = i
    · rw [hj, State.bandsHeld_of_idle h.idle', State.bandsHeld_of_idle h.idle, h.requirement, h.active]
    · exact State.bandsHeld_congr h.library (congrArg Screen.claims (h.others j hj))
  simp only [State.bandsFree, State.bandsHeldInAll, hheld]

/-- A completion that finds a target waiting decides it on the state it leaves. -/
theorem State.decided_completed {method : Byte} {left : Target} (hactive : (u.scr i).equaliser.active = p)
    (hwaiting : (u.scr i).equaliser.waiting = some q) (hidle : (u.scr i).equaliser.switch = .idle) :
    ((u.presetCompleted i method left).scr i).Decided p q (u.requirement i q) (u.requirement i p) u.bandsFree := by
  rw [State.presetCompleted, hwaiting]
  dsimp only
  obtain ⟨queue, path, hpost⟩ := State.postAt_frame (s := u) (what := .presetDone) (screen := some i)
    (position := some (u.scr i).clock.position)
    (detail := method :: targetField left ++ targetField (u.scr i).equaliser.active ++ u16 (u.bandsHeld i) ++ u16 u.bandsFree)
  rw [hpost]
  generalize hv : State.modEqualiser { u with queue := queue, port := { u.port with path := path } } i
    (fun e => { e with waiting := none }) = v
  have hscr : v.scr i = { u.scr i with equaliser := { (u.scr i).equaliser with waiting := none } } := by
    rw [← hv]
    exact State.scr_modScreen_same
  have hsame : State.SamePool i u v := {
    library := by rw [← hv]; rfl
    others := fun j hj => by rw [← hv]; exact State.scr_modScreen_of_ne hj
    mask := by rw [hscr]
    active := by rw [hscr]
    idle := hidle
    idle' := by rw [hscr]; exact hidle }
  have hdecided := State.decided_presetTried (u := v) (i := i) (p := p) (q := q) (by rw [hscr]; exact hactive) (by rw [hscr])
    (by rw [hscr]; exact hidle)
  rw [hsame.requirement, hsame.bandsFree] at hdecided
  rw [← hv] at hdecided
  exact hdecided

/-! ### The switch term (R56, R80, R81) -/

theorem Stepped.step_to_bottom {x : Stepped} (htarget : x.target = -480) (hlow : -480 ≤ x.current) (hhigh : x.current ≤ -420) :
    x.step 60 = { current := -480, target := -480 } := by
  have hcurrent : stepToward x.current x.target 60 = -480 := by
    rw [htarget, stepToward_eq]
    split <;> omega
  rw [Stepped.step, hcurrent, htarget]

theorem Stepped.step_to_zero {x : Stepped} (htarget : x.target = 0) (hlow : -60 ≤ x.current) (hhigh : x.current ≤ 0) :
    x.step 60 = { current := 0, target := 0 } := by
  have hcurrent : stepToward x.current x.target 60 = 0 := by
    rw [htarget, stepToward_eq]
    split <;> omega
  rw [Stepped.step, hcurrent, htarget]

theorem Gain.step_switchTerm {g : Gain} : g.step.switchTerm = g.switchTerm.step 60 := rfl

/-! ### The boundary before the switch's progress -/

theorem Pass.gained : Pass i s (s.gained i).1 := by
  rw [State.gained]
  exact Work.equalised.pass.trans Pass.gainStage

theorem Pass.library (h : Pass i s u) : u.library = s.library := by
  rw [State.outside_eq_iff.mp h.outside]

/-- The equaliser and the terms that a switch finds when the block has been gained. -/
theorem State.switch_gained :
    let e := (s.scr i).equaliser
    let e' := ((s.gained i).1.scr i).equaliser
    e'.active = e.active ∧ e'.incoming = e.incoming ∧ e'.waiting = e.waiting ∧ e'.switch = e.switch ∧
      e'.phase = e.phase ∧ e'.count = e.counted ∧
      ((s.gained i).1.scr i).gain = (s.scr i).gain.step := by
  obtain ⟨_, _, _, _, _, _, h⟩ := State.scr_gained_eq (s := s) (i := i)
  rw [h]
  exact ⟨rfl, rfl, rfl, rfl, rfl, rfl, rfl⟩

theorem Equaliser.counted_of_crossfade {e : Equaliser} (h : e.switch = .crossfade) : e.counted = e.count + 1 := if_pos h

/-- The lane at a boundary whose switch term stands at -480: silence on every bus (R58). -/
theorem State.lane_gained_of_silent (h : ((s.gained i).1.scr i).gain.switchTerm.current = -480) (b : Bus) :
    ((s.gained i).1.scr i).lane[b] = List.replicate 48 0 := by
  obtain ⟨_, _, hscr⟩ := State.scr_gained (s := s) (i := i)
  have hterm : ((s.equalised i).1.scr i).gain.step.switchTerm.current = -480 := by
    rw [hscr] at h
    exact h
  have hlane := State.lane_gainStage (s := (s.equalised i).1) (i := i) (centre := ((s.taken i).1.scr i).decoder.centre)
    (surround := ((s.taken i).1.scr i).decoder.surround) (e := (s.equalised i).2)
  rw [State.gained, hlane, Fin.getElem_fin, Vector.getElem_ofFn]
  exact congrArg Prod.fst (gainBus_of_silent (silentBus_iff.mpr (.inr (.inr (.inr (.inr hterm))))))

/-! ### A completion at a boundary -/

/-- The state that a waiting target is decided on: the screen IDLE with `p` active and nothing waiting, and else as it was. -/
def State.completedWith (s : State) (i : ScreenIx) (p : Target) : State :=
  { s with
    screens := s.screens.set i
      { s.scr i with equaliser :=
          { (s.scr i).equaliser with active := p, incoming := none, waiting := none, switch := .idle } } }

/-- A change of the gained screen's equaliser that makes it IDLE with `p` active keeps the pool as `completedWith` has it. -/
theorem State.samePool_gained {f : Equaliser → Equaliser} (hactive : (f ((s.gained i).1.scr i).equaliser).active = p)
    (hidle : (f ((s.gained i).1.scr i).equaliser).switch = .idle) :
    State.SamePool i (s.completedWith i p) ((s.gained i).1.modEqualiser i f) := by
  have hpass := Pass.gained (s := s) (i := i)
  generalize (s.gained i).1 = u at hpass hactive hidle ⊢
  have hscr : (u.modEqualiser i f).scr i = { u.scr i with equaliser := f (u.scr i).equaliser } := State.scr_modScreen_same
  have hwith : (s.completedWith i p).scr i =
      { s.scr i with equaliser :=
          { (s.scr i).equaliser with active := p, incoming := none, waiting := none, switch := .idle } } :=
    (State.scr_set rfl).trans (if_pos rfl)
  exact {
    library := hpass.library
    others := fun j hj => by
      rw [State.modEqualiser, State.scr_modScreen_of_ne hj, hpass.others j hj]
      exact ((State.scr_set rfl).trans (if_neg (Ne.symm hj))).symm
    mask := by rw [hscr, hwith]; exact hpass.screen.mask
    active := by rw [hscr, hwith]; exact hactive
    idle := by rw [hwith]
    idle' := by rw [hscr]; exact hidle }

/-- The screen of a boundary without cues that completes a switch, `f` being what the completion does to the equaliser:
unless a target waits, the completion's own equaliser; else what the table decides. -/
theorem State.completion_boundary (hcues : (s.scr i).cues = []) (hslot : (s.scr i).immediate = .empty)
    {f : Equaliser → Equaliser} {method : Byte} {left : Target}
    (hprogress : (s.gained i).1.switchProgress i = ((s.gained i).1.modEqualiser i f).presetCompleted i method left)
    (hactive : (f ((s.gained i).1.scr i).equaliser).active = p)
    (hwaiting : (f ((s.gained i).1.scr i).equaliser).waiting = (s.scr i).equaliser.waiting)
    (hidle : (f ((s.gained i).1.scr i).equaliser).switch = .idle) :
    ((s.scr i).equaliser.waiting = none →
      ((s.boundary i).scr i).equaliser = f ((s.gained i).1.scr i).equaliser ∧
        ((s.boundary i).scr i).gain = ((s.gained i).1.scr i).gain) ∧
    (∀ q, (s.scr i).equaliser.waiting = some q →
      ((s.boundary i).scr i).Decided p q ((s.completedWith i p).requirement i q) ((s.completedWith i p).requirement i p)
        (s.completedWith i p).bandsFree) := by
  have hsame := State.samePool_gained hactive hidle
  obtain ⟨-, hequaliser, hgain⟩ := State.scr_boundary_quiet hcues hslot
  rw [hprogress] at hequaliser hgain
  generalize (s.gained i).1 = u at hsame hequaliser hgain hactive hwaiting hidle ⊢
  have hscr : (u.modEqualiser i f).scr i = { u.scr i with equaliser := f (u.scr i).equaliser } := State.scr_modScreen_same
  generalize u.modEqualiser i f = v at hsame hequaliser hgain hscr
  refine ⟨fun hnone => ?_, fun q hq => ?_⟩
  · have hdone := State.scr_completed_of_none (u := v) (i := i) (method := method) (left := left)
      (by rw [hscr]; exact hwaiting.trans hnone)
    rw [hequaliser, hgain, hdone, hscr]
    exact ⟨rfl, rfl⟩
  · have hdecided := State.decided_completed (u := v) (i := i) (p := p) (q := q) (method := method) (left := left)
      (by rw [hscr]; exact hactive) (by rw [hscr]; exact hwaiting.trans hq) (by rw [hscr]; exact hidle)
    rw [hsame.requirement, hsame.bandsFree] at hdecided
    unfold Screen.Decided at hdecided ⊢
    rw [hequaliser, hgain]
    exact hdecided

/-- What the completion of a crossfade does to the equaliser (R78). -/
def Equaliser.crossfaded (e : Equaliser) : Equaliser :=
  { e with active := e.incoming.getD none, incoming := none, count := 0, switch := .idle, chains := e.inChains,
           inChains := noChains }

theorem Equaliser.crossfaded_fields {e : Equaliser} :
    e.crossfaded.active = e.incoming.getD none ∧ e.crossfaded.incoming = none ∧ e.crossfaded.switch = .idle ∧
      e.crossfaded.waiting = e.waiting := ⟨rfl, rfl, rfl, rfl⟩

/-- What the completion of a cut does to the equaliser (R81). -/
def Equaliser.cutEnded (e : Equaliser) : Equaliser := { e with switch := .idle, phase := none, left := none }

theorem Equaliser.cutEnded_fields {e : Equaliser} :
    e.cutEnded.active = e.active ∧ e.cutEnded.phase = none ∧ e.cutEnded.switch = .idle ∧ e.cutEnded.waiting = e.waiting :=
  ⟨rfl, rfl, rfl, rfl⟩

theorem State.crossfade_progress (hswitch : (s.scr i).equaliser.switch = .crossfade)
    (hcount : 31 ≤ (s.scr i).equaliser.count) :
    (s.gained i).1.switchProgress i =
      ((s.gained i).1.modEqualiser i Equaliser.crossfaded).presetCompleted i 0x01
        ((s.gained i).1.scr i).equaliser.active := by
  obtain ⟨-, -, -, hswitch', -, hcount', -⟩ := State.switch_gained (s := s) (i := i)
  rw [Equaliser.counted_of_crossfade hswitch] at hcount'
  generalize (s.gained i).1 = u at hswitch' hcount' ⊢
  rw [State.switchProgress_of_crossfade (hswitch'.trans hswitch) (by omega), State.crossfadeDone_eq]
  rfl

theorem State.fadeIn_progress (hswitch : (s.scr i).equaliser.switch = .cut)
    (hphase : (s.scr i).equaliser.phase = some .fadeIn) (htarget : (s.scr i).gain.switchTerm.target = 0)
    (hlow : -60 ≤ (s.scr i).gain.switchTerm.current) (hhigh : (s.scr i).gain.switchTerm.current ≤ 0) :
    (s.gained i).1.switchProgress i =
      ((s.gained i).1.modEqualiser i Equaliser.cutEnded).presetCompleted i 0x02
        ((s.gained i).1.scr i).equaliser.left := by
  obtain ⟨-, -, -, hswitch', hphase', -, hgain⟩ := State.switch_gained (s := s) (i := i)
  have hterm := Stepped.step_to_zero htarget hlow hhigh
  generalize (s.gained i).1 = u at hswitch' hphase' hgain ⊢
  have hzero : (u.scr i).gain.switchTerm.current = 0 := by rw [hgain, Gain.step_switchTerm, hterm]
  rw [State.switchProgress_of_fadeIn (hswitch'.trans hswitch) (hphase'.trans hphase) hzero, State.cutDone_eq]
  rfl

/-- The boundary that completes a crossfade to `p` on a screen without cues. -/
theorem State.crossfade_boundary (hcues : (s.scr i).cues = []) (hslot : (s.scr i).immediate = .empty)
    (hswitch : (s.scr i).equaliser.switch = .crossfade) (hcount : 31 ≤ (s.scr i).equaliser.count)
    (hincoming : (s.scr i).equaliser.incoming = some p) :
    let f := ((s.boundary i).scr i).equaliser
    ((s.scr i).equaliser.waiting = none →
      f.active = p ∧ f.incoming = none ∧ f.waiting = none ∧ f.switch = .idle) ∧
    (∀ q, (s.scr i).equaliser.waiting = some q →
      ((s.boundary i).scr i).Decided p q ((s.completedWith i p).requirement i q) ((s.completedWith i p).requirement i p)
        (s.completedWith i p).bandsFree) := by
  obtain ⟨-, hincoming', hwaiting', -⟩ := State.switch_gained (s := s) (i := i)
  obtain ⟨hactive, hnone, hidle, hwaiting⟩ := Equaliser.crossfaded_fields (e := ((s.gained i).1.scr i).equaliser)
  rw [hincoming', hincoming, Option.getD_some] at hactive
  rw [hwaiting'] at hwaiting
  obtain ⟨hdone, hdecided⟩ := State.completion_boundary hcues hslot (State.crossfade_progress hswitch hcount) hactive hwaiting
    hidle
  refine ⟨fun h => ?_, hdecided⟩
  obtain ⟨hequaliser, -⟩ := hdone h
  rw [← hequaliser] at hactive hnone hidle hwaiting
  exact ⟨hactive, hnone, hwaiting.trans h, hidle⟩

/-- The boundary that completes a cut on a screen without cues. -/
theorem State.fadeIn_boundary (hcues : (s.scr i).cues = []) (hslot : (s.scr i).immediate = .empty)
    (hswitch : (s.scr i).equaliser.switch = .cut) (hphase : (s.scr i).equaliser.phase = some .fadeIn)
    (hactive : (s.scr i).equaliser.active = p) (htarget : (s.scr i).gain.switchTerm.target = 0)
    (hlow : -60 ≤ (s.scr i).gain.switchTerm.current) (hhigh : (s.scr i).gain.switchTerm.current ≤ 0) :
    let f := ((s.boundary i).scr i).equaliser
    ((s.scr i).equaliser.waiting = none →
      f.active = p ∧ f.switch = .idle ∧ f.phase = none ∧
        ((s.boundary i).scr i).gain.switchTerm = { current := 0, target := 0 }) ∧
    (∀ q, (s.scr i).equaliser.waiting = some q →
      ((s.boundary i).scr i).Decided p q ((s.completedWith i p).requirement i q) ((s.completedWith i p).requirement i p)
        (s.completedWith i p).bandsFree) := by
  obtain ⟨hactive', -, hwaiting', -, -, -, hgain'⟩ := State.switch_gained (s := s) (i := i)
  obtain ⟨hended, hnone, hidle, hwaiting⟩ := Equaliser.cutEnded_fields (e := ((s.gained i).1.scr i).equaliser)
  rw [hactive', hactive] at hended
  rw [hwaiting'] at hwaiting
  obtain ⟨hdone, hdecided⟩ := State.completion_boundary hcues hslot
    (State.fadeIn_progress hswitch hphase htarget hlow hhigh) hended hwaiting hidle
  refine ⟨fun h => ?_, hdecided⟩
  obtain ⟨hequaliser, hgain⟩ := hdone h
  rw [← hequaliser] at hended hnone hidle
  refine ⟨hended, hidle, hnone, ?_⟩
  rw [hgain, hgain', Gain.step_switchTerm, Stepped.step_to_zero htarget hlow hhigh]

/-! ### The commands that name the event (log 1) -/

theorem exec_crossfadeComplete (hswitch : (s.scr i).equaliser.switch = .crossfade)
    (hcount : 31 ≤ (s.scr i).equaliser.count) : exec (.crossfadeComplete i) s = .next (s.boundary i) := by
  have hdue : (s.scr i).crossfadeDue = true := by
    simp only [Screen.crossfadeDue, hswitch, decide_true, Bool.true_and, decide_eq_true_eq]
    omega
  exact congrArg Host.Outcome.next (if_pos hdue)

theorem exec_cutSwap (hswitch : (s.scr i).equaliser.switch = .cut) (hphase : (s.scr i).equaliser.phase = some .fadeOut)
    (hterm : ((s.scr i).gain.switchTerm.step 60).current = -480) : exec (.cutSwap i) s = .next (s.boundary i) := by
  have hdue : (s.scr i).cutSwapDue = true := by
    simp only [Screen.cutSwapDue, Screen.nextSwitchTerm, hswitch, hphase, hterm, decide_true, Bool.and_self]
  exact congrArg Host.Outcome.next (if_pos hdue)

theorem exec_cutComplete (hswitch : (s.scr i).equaliser.switch = .cut) (hphase : (s.scr i).equaliser.phase = some .fadeIn)
    (hterm : ((s.scr i).gain.switchTerm.step 60).current = 0) : exec (.cutComplete i) s = .next (s.boundary i) := by
  have hdue : (s.scr i).cutEndDue = true := by
    simp only [Screen.cutEndDue, Screen.nextSwitchTerm, hswitch, hphase, hterm, decide_true, Bool.and_self]
  exact congrArg Host.Outcome.next (if_pos hdue)

/-! ### The swap at a boundary (R81) -/

theorem State.swap_boundary (hcues : (s.scr i).cues = []) (hslot : (s.scr i).immediate = .empty)
    (hswitch : (s.scr i).equaliser.switch = .cut) (hphase : (s.scr i).equaliser.phase = some .fadeOut)
    (htarget : (s.scr i).gain.switchTerm.target = -480) (hlow : -480 ≤ (s.scr i).gain.switchTerm.current)
    (hhigh : (s.scr i).gain.switchTerm.current ≤ -420) :
    let e := (s.scr i).equaliser
    let f := ((s.boundary i).scr i).equaliser
    f.active = e.incoming.getD none ∧ f.incoming = none ∧ f.delta = 0 ∧ f.switch = .cut ∧ f.phase = some .fadeIn ∧
      f.waiting = e.waiting ∧ ((s.boundary i).scr i).gain.switchTerm = { current := -480, target := 0 } ∧
      ∀ b : Bus, ((s.boundary i).scr i).lane[b] = List.replicate 48 0 := by
  obtain ⟨-, hincoming', hwaiting', hswitch', hphase', -, hgain'⟩ := State.switch_gained (s := s) (i := i)
  have hterm : ((s.gained i).1.scr i).gain.switchTerm = { current := -480, target := -480 } := by
    rw [hgain', Gain.step_switchTerm, Stepped.step_to_bottom htarget hlow hhigh]
  have hlane := State.lane_gained_of_silent (s := s) (i := i) (by rw [hterm])
  obtain ⟨-, hequaliser, hgain⟩ := State.scr_boundary_quiet hcues hslot
  have hswap := State.switchProgress_of_fadeOut (hswitch'.trans hswitch) (hphase'.trans hphase) (by rw [hterm])
  rw [hswap, State.swapCut_eq] at hequaliser hgain
  dsimp only
  rw [State.lane_boundary, hequaliser, hgain]
  generalize (s.gained i).1 = u at hincoming' hwaiting' hswitch' hterm hlane ⊢
  rw [State.scr_put_same]
  dsimp only
  rw [hterm, hincoming']
  exact ⟨rfl, rfl, rfl, hswitch'.trans hswitch, rfl, hwaiting', rfl, hlane⟩

end

/-- Settles O47: the progress of a switch by its branches, its completions by the pool they leave, and the three boundaries. -/
theorem switchEventsAtTheirBoundary : Obligations.SwitchEventsAtTheirBoundary := by
  refine ⟨fun s i => ?_, fun s i => ?_, fun s i p q => ?_, fun s i => ?_⟩
  · intro e term hcues hslot
    refine ⟨fun p hswitch hcount hincoming hwaiting => ?_, fun p hswitch hphase hincoming htarget hlow hhigh => ?_,
      fun hswitch hphase hwaiting htarget hlow hhigh => ?_⟩
    · obtain ⟨hdone, -⟩ := State.crossfade_boundary hcues hslot hswitch hcount hincoming
      obtain ⟨hactive, hnone, hwaiting', hidle⟩ := hdone hwaiting
      have hheld : (s.boundary i).bandsHeld i = (s.boundary i).requirement i p := by
        rw [State.bandsHeld_of_idle hidle, hactive]
      exact ⟨s.boundary i, exec_crossfadeComplete hswitch hcount, hactive, hnone, hwaiting', hidle, hheld,
        Pass.boundary.library⟩
    · have hterm := Stepped.step_to_bottom htarget hlow hhigh
      obtain ⟨hactive, hrest⟩ := State.swap_boundary hcues hslot hswitch hphase htarget hlow hhigh
      rw [hincoming, Option.getD_some] at hactive
      exact ⟨s.boundary i, exec_cutSwap hswitch hphase (by rw [hterm]), hactive, hrest⟩
    · have hterm := Stepped.step_to_zero htarget hlow hhigh
      obtain ⟨hdone, -⟩ := State.fadeIn_boundary hcues hslot hswitch hphase rfl htarget hlow hhigh
      exact ⟨s.boundary i, exec_cutComplete hswitch hphase (by rw [hterm]), hdone hwaiting⟩
  · exact ⟨State.crossfadeDone_eq, State.cutDone_eq⟩
  · intro e term completed old new decided hcues hslot hwaiting
    have hlibrary : (s.boundary i).library = s.library := Pass.boundary.library
    have hdecides {command : Instr} (hexec : exec command s = .next (s.boundary i))
        (h : ((s.boundary i).scr i).Decided p q new old completed.bandsFree) : decided command := by
      obtain ⟨hp, hnone, htable⟩ := h
      exact ⟨s.boundary i, hexec, hp, hnone, hlibrary, htable⟩
    refine ⟨fun hswitch hcount hincoming => ?_, fun hswitch hphase hactive htarget hlow hhigh => ?_⟩
    · exact hdecides (exec_crossfadeComplete hswitch hcount)
        ((State.crossfade_boundary hcues hslot hswitch hcount hincoming).2 q hwaiting)
    · have hterm := Stepped.step_to_zero htarget hlow hhigh
      exact hdecides (exec_cutComplete hswitch hphase (by rw [hterm]))
        ((State.fadeIn_boundary hcues hslot hswitch hphase hactive htarget hlow hhigh).2 q hwaiting)
  · intro c e term target bands
    refine ⟨State.switchProgress_eq, ?_⟩
    have hbands (b : Fin 8) : (s.contents target b).bands.length = bands b := by
      dsimp only [bands, State.contents]
      generalize target = x
      cases x with
      | none => rfl
      | some p =>
        dsimp only
        cases s.library[p] <;> rfl
    rw [State.swapCut_eq]
    dsimp only
    rw [State.put_nil]
    simp only [← hbands]
    rfl

end Sys2Proof.Machine
end

section
/-! The clock's move at a boundary (R129 to R133), case by case of its state, its mode and the position it is given. -/

namespace Sys2Proof.Machine

/-! ### The parts of a move -/

section
variable {c : Clock} {position : Option Nat}

/-- The position that an advance reaches (R130, R133). -/
def Clock.stepped (c : Clock) : Nat := if c.mark = false ∧ c.position < c.endPoint then c.position + 1 else c.position

/-- The end test at a position (R130, R132). -/
abbrev Clock.EndsAt (c : Clock) (p : Nat) : Prop := p = c.endPoint ∧ (c.endMode = .once ∨ c.length = 0)

/-- The clock after a move to `p` that the end test decides. -/
def Clock.going (c : Clock) (p count : Nat) : Clock :=
  { c with
    state := if c.EndsAt p then .stopped else .running, position := p, evaluated := p, mark := false,
    flywheelCount := count }

/-- A clock that stays where it is. -/
def Clock.still (c : Clock) : Clock := { c with evaluated := c.position, mark := false }

/-- The movement to `p` from the position last evaluated. -/
def Clock.toward (c : Clock) (p : Nat) : Movement := { old := c.evaluated, new := p, wrapped := false }

/-- The move that stays. -/
def Clock.staying (c : Clock) : ClockMove × Movement :=
  ({ clock := c.still, resumed := false, outcome := .going }, c.toward c.position)

/-- The move to `p` that the end test decides, a HELD clock resuming on the way if `resumed`. -/
def Clock.moved (c : Clock) (p count : Nat) (resumed : Bool) : ClockMove × Movement :=
  ({ clock := c.going p count, resumed := resumed, outcome := if c.EndsAt p then .ended else .going }, c.toward p)

/-- The end test of a clock that has come to `d` from `c`, RUNNING. -/
theorem Clock.move_of_endTest {d : Clock} {p count : Nat} {resumed : Bool}
    (hraw : c.moveRaw position = d.endTest resumed)
    (hd : d = { c with state := .running, position := p, flywheelCount := count, mark := d.mark }) :
    c.move position = c.moved p count resumed := by
  have htest : d.endTest resumed =
      if c.EndsAt p then { clock := { d with state := .stopped }, resumed := resumed, outcome := .ended }
      else { clock := d, resumed := resumed, outcome := .going } := by
    rw [hd]
    rfl
  unfold Clock.move Clock.moved Clock.going
  rw [hraw, htest]
  by_cases hend : c.EndsAt p
  · simp only [if_pos hend]
    rw [hd]
    rfl
  · simp only [if_neg hend]
    rw [hd]
    rfl

theorem Clock.advance_eq : c.advance = { c with position := c.stepped } := by
  unfold Clock.advance Clock.stepped
  split <;> rfl

/-! ### The cases -/

theorem Clock.move_of_still (hraw : c.moveRaw position = { clock := c, resumed := false, outcome := .going }) :
    c.move position = c.staying := by
  unfold Clock.move
  rw [hraw]
  rfl

theorem Clock.move_stopped (h : c.state = .stopped) : c.move position = c.staying :=
  Clock.move_of_still (by unfold Clock.moveRaw; rw [h])

theorem Clock.move_held_free (hstate : c.state = .held) (hmode : c.mode = .free) : c.move position = c.staying :=
  Clock.move_of_still (by unfold Clock.moveRaw; rw [hstate, hmode])

theorem Clock.move_held_none (hstate : c.state = .held) : c.move none = c.staying := by
  refine Clock.move_of_still ?_
  unfold Clock.moveRaw
  rw [hstate]
  cases c.mode <;> rfl

theorem Clock.moveRaw_free (hstate : c.state = .running) (hmode : c.mode = .free) : c.moveRaw position = c.moveFree := by
  unfold Clock.moveRaw
  rw [hstate, hmode]

theorem Clock.moveRaw_flywheel (hstate : c.state = .running) (hmode : c.mode = .chase) :
    c.moveRaw none = c.flywheel := by
  unfold Clock.moveRaw
  rw [hstate, hmode]

theorem Clock.moveRaw_chase {p : Nat} (hstate : c.state ≠ .stopped) (hmode : c.mode = .chase) :
    c.moveRaw (some p) = c.chase p := by
  unfold Clock.moveRaw
  rw [hmode]
  cases hc : c.state with
  | stopped => exact absurd hc hstate
  | running | held => rfl

theorem Clock.moveFree_eq :
    c.moveFree =
      if c.stepped = c.endPoint ∧ c.endMode = .loop ∧ c.length ≠ 0 then
        { clock := { c with position := c.stepped }, resumed := false, outcome := .wrapped }
      else Clock.endTest { c with position := c.stepped } false := by
  rw [Clock.moveFree, Clock.advance_eq]
  rfl

/-- A free clock that wraps: the movement is that to the length (R131). -/
theorem Clock.move_wraps (hstate : c.state = .running) (hmode : c.mode = .free)
    (hwrap : c.stepped = c.endPoint ∧ c.endMode = .loop ∧ c.length ≠ 0) :
    c.move position =
      ({ clock := { c with position := 0, evaluated := 0, mark := false }, resumed := false, outcome := .wrapped },
        { old := c.evaluated, new := c.stepped, wrapped := true }) := by
  have hraw : c.moveRaw position =
      { clock := { c with position := c.stepped }, resumed := false, outcome := .wrapped } := by
    rw [Clock.moveRaw_free hstate hmode, Clock.moveFree_eq, if_pos hwrap]
  unfold Clock.move
  rw [hraw]
  rfl

theorem Clock.move_free (hstate : c.state = .running) (hmode : c.mode = .free)
    (hwrap : ¬ (c.stepped = c.endPoint ∧ c.endMode = .loop ∧ c.length ≠ 0)) :
    c.move position = c.moved c.stepped c.flywheelCount false := by
  refine Clock.move_of_endTest (d := { c with position := c.stepped }) ?_ (by rw [← hstate])
  rw [Clock.moveRaw_free hstate hmode, Clock.moveFree_eq, if_neg hwrap]

theorem Clock.move_chases {p : Nat} (hstate : c.state ≠ .stopped) (hmode : c.mode = .chase) :
    c.move (some p) = c.moved (c.clampPosition p) 0 (decide (c.state = .held)) :=
  Clock.move_of_endTest (d := { c with position := c.clampPosition p, state := .running, flywheelCount := 0 })
    (Clock.moveRaw_chase hstate hmode) rfl

theorem Clock.move_flywheel (hstate : c.state = .running) (hmode : c.mode = .chase)
    (hcount : c.flywheelCount < c.flywheelLimit) :
    c.move none = c.moved c.stepped (c.flywheelCount + 1) false := by
  refine Clock.move_of_endTest (d := { c with position := c.stepped, flywheelCount := c.flywheelCount + 1 }) ?_
    (by rw [← hstate])
  rw [Clock.moveRaw_flywheel hstate hmode, Clock.flywheel, if_pos hcount, Clock.advance_eq]

/-- The flywheel's limit is reached: the clock is HELD (R133). -/
theorem Clock.move_holds (hstate : c.state = .running) (hmode : c.mode = .chase)
    (hcount : ¬ c.flywheelCount < c.flywheelLimit) :
    c.move none =
      ({ clock := { c with state := .held, evaluated := c.position, mark := false }, resumed := false, outcome := .held },
        c.toward c.position) := by
  have hraw : c.moveRaw none = { clock := { c with state := .held }, resumed := false, outcome := .held } := by
    rw [Clock.moveRaw_flywheel hstate hmode, Clock.flywheel, if_neg hcount]
  unfold Clock.move
  rw [hraw]
  rfl

end

/-! ### The move on the state -/

section
variable {s : State} {i : ScreenIx} {t : Taken}

/-- The screen's clock in its place. -/
def State.withClock (s : State) (i : ScreenIx) (c : Clock) : State :=
  { s with screens := s.screens.set i { s.scr i with clock := c } }

/-- The end of a clock at a boundary: its record, and the stop policy of the screen's CUE lines (R130, R174). -/
def State.clockEnded (u : State) (i : ScreenIx) : State :=
  { u.post .clockEnd i [0x01, 0x00, 0x04, 0x00] with
    lines := (u.post .clockEnd i [0x01, 0x00, 0x04, 0x00]).lines.map (Line.stopFor i) }

theorem State.moveClock_staying (h : (s.scr i).clock.move t.clockPosition = (s.scr i).clock.staying) :
    s.moveClock i t = (s.withClock i (s.scr i).clock.still, (s.scr i).clock.toward (s.scr i).clock.position) := by
  unfold State.moveClock
  rw [h]
  rfl

theorem State.moveClock_moved {p count : Nat} {resumed : Bool}
    (h : (s.scr i).clock.move t.clockPosition = (s.scr i).clock.moved p count resumed) :
    s.moveClock i t =
      let u := s.withClock i ((s.scr i).clock.going p count)
      let v := if resumed then u.post .clockState i [0x02, 0x01, 0x03, 0x00] else u
      (if (s.scr i).clock.EndsAt p then v.clockEnded i else v, (s.scr i).clock.toward p) := by
  unfold State.moveClock
  rw [h]
  unfold Clock.moved
  by_cases hend : (s.scr i).clock.EndsAt p
  · simp only [if_pos hend]
    cases resumed <;> rfl
  · simp only [if_neg hend]
    cases resumed <;> rfl

theorem State.moveClock_wraps
    (h : (s.scr i).clock.move t.clockPosition =
      ({ clock := { (s.scr i).clock with position := 0, evaluated := 0, mark := false }, resumed := false,
         outcome := .wrapped },
        { old := (s.scr i).clock.evaluated, new := (s.scr i).clock.stepped, wrapped := true })) :
    s.moveClock i t =
      ((s.withClock i { (s.scr i).clock with position := 0, evaluated := 0, mark := false }).post .clockWrap i
          ([0x01, 0x01, 0x04, 0x00] ++ u32 (s.scr i).clock.length),
        { old := (s.scr i).clock.evaluated, new := (s.scr i).clock.stepped, wrapped := true }) := by
  have hlength : ((s.modClock i fun _ =>
      { (s.scr i).clock with position := 0, evaluated := 0, mark := false }).scr i).clock.length =
      (s.scr i).clock.length := by rw [State.scr_modClock, if_pos rfl]
  unfold State.moveClock
  rw [h]
  simp only [Bool.false_eq_true, if_false]
  rw [hlength]
  rfl

theorem State.moveClock_holds
    (h : (s.scr i).clock.move t.clockPosition =
      ({ clock := { (s.scr i).clock with state := .held, evaluated := (s.scr i).clock.position, mark := false },
         resumed := false, outcome := .held },
        (s.scr i).clock.toward (s.scr i).clock.position)) :
    s.moveClock i t =
      ((s.withClock i { (s.scr i).clock with state := .held, evaluated := (s.scr i).clock.position, mark := false }).post
          .clockHeld i [0x01, 0x02, 0x04, 0x00],
        (s.scr i).clock.toward (s.scr i).clock.position) := by
  unfold State.moveClock
  rw [h]
  rfl

end

end Sys2Proof.Machine
end

section
/-! O51: what a boundary does to its screen and to the part, its stages in order, and its clock. -/

namespace Sys2Proof.Machine

section
variable {s u : State} {i : ScreenIx} {t : Taken}

/-! ### What a boundary leaves -/

theorem State.immediate_boundary : ((s.boundary i).scr i).immediate = .empty := by
  have hbefore : ((s.beforeClose i).scr i).immediate = .empty := by
    rw [State.beforeClose_eq]
    exact State.immediate_performSlot
  rw [State.boundary]
  generalize s.beforeClose i = u at hbefore ⊢
  split
  · obtain ⟨_, _, _, hclose, -⟩ := State.scr_closeInterval (s := u) (i := i)
    rw [hclose]
    exact hbefore
  · exact hbefore

theorem Meters.boundaryCount_block {m : Meters} {lane : Vector (List Int) 8} {clips : Vector Bool 8} :
    (m.block lane clips).boundaryCount = m.boundaryCount + 1 ∧ (m.block lane clips).close.boundaryCount = 0 := ⟨rfl, rfl⟩

theorem State.boundaryCount_boundary :
    ((s.boundary i).scr i).meters.boundaryCount =
      if 10 ≤ (s.scr i).meters.boundaryCount + 1 then 0 else (s.scr i).meters.boundaryCount + 1 := by
  obtain ⟨hblock, hclose⟩ := Meters.boundaryCount_block (m := (s.scr i).meters) (lane := ((s.boundary i).scr i).lane)
    (clips := (s.gained i).2)
  by_cases h : 10 ≤ (s.scr i).meters.boundaryCount + 1
  · rw [if_pos h, State.meters_of_close (by omega), hclose]
  · rw [if_neg h, State.meters_of_no_close (by omega), hblock]

/-- The block that the gain stage gives a bus: zeros for an absent bus, and samples of the range (R58, R60). -/
theorem gainBus_lane {g : Gain} {d : Decoder} {guardValue centre surround : Int} {e : Equalised} {b : Bus} :
    (d.mask.getLsbD b.val = false →
      (gainBus g d guardValue centre surround e b).1 = List.replicate 48 0) ∧
      ∀ y ∈ (gainBus g d guardValue centre surround e b).1, -8388608 ≤ y ∧ y ≤ 8388607 := by
  by_cases hsilent : silentBus g d (busTotal g guardValue centre surround e b) b = true
  · rw [gainBus_of_silent hsilent]
    refine ⟨fun _ => rfl, fun y hy => ?_⟩
    rw [List.eq_of_mem_replicate hy]
    decide
  · refine ⟨fun habsent => absurd (silentBus_iff.mpr (.inl habsent)) hsilent, fun y hy => ?_⟩
    rw [gainBus_of_not_silent hsilent] at hy
    obtain ⟨x, -, rfl⟩ := List.mem_map.mp hy
    exact clampInt_mem (by decide)

theorem State.lane_boundary_bus {b : Bus} :
    ((s.scr i).decoder.mask.getLsbD b.val = false → ((s.boundary i).scr i).lane[b] = List.replicate 48 0) ∧
      ∀ y ∈ ((s.boundary i).scr i).lane[b], -8388608 ≤ y ∧ y ≤ 8388607 := by
  have hmask : ((s.equalised i).1.scr i).decoder.mask = (s.scr i).decoder.mask := Work.equalised.screen.mask
  have hlane := State.lane_gainStage (s := (s.equalised i).1) (i := i) (centre := ((s.taken i).1.scr i).decoder.centre)
    (surround := ((s.taken i).1.scr i).decoder.surround) (e := (s.equalised i).2)
  rw [State.lane_boundary, State.gained, hlane, ← hmask, Fin.getElem_fin, Vector.getElem_ofFn]
  exact gainBus_lane

theorem Pass.numbers (h : Pass i s u) : (u.scr i).cues.map CueEntry.number = (s.scr i).cues.map CueEntry.number := by
  have hfixed := congrArg (List.map CueEntry.number) h.screen.cues
  rw [List.map_map, List.map_map] at hfixed
  exact hfixed

/-! ### The stages in their order -/

theorem State.decoder_taken : ((s.taken i).1.scr i).decoder = (s.scr i).decoder := by
  obtain ⟨_, _, h⟩ := State.scr_taken (s := s) (i := i)
  rw [h]

/-- The close: the meters publish, the STREAM reading is stored, then the 18 instances in order and the guard. -/
theorem State.closeInterval_eq :
    u.closeInterval i =
      let p := u.scr i
      let published : State :=
        { u with
          screens := u.screens.set i
            { p with
              meters := p.meters.close,
              alarms := { p.alarms with streamState := (p.intake.slot p.intake.selection).state,
                                        streamLetter := p.intake.selection } } }
      let ids : List AlarmId :=
        .overLevel :: (List.finRange 8).map AlarmId.clip ++ (List.finRange 8).map AlarmId.silence ++ [.stream]
      (ids.foldl (fun u id => u.evaluateAlarm i id) published).evaluateGuard i := by
  have hpublished : (u.modMeters i Meters.close).readStream i =
      { u with
        screens := u.screens.set i
          { u.scr i with
            meters := (u.scr i).meters.close,
            alarms := { (u.scr i).alarms with
              streamState := ((u.scr i).intake.slot (u.scr i).intake.selection).state,
              streamLetter := (u.scr i).intake.selection } } } := by
    have hmeters : u.modMeters i Meters.close = u.put i { u.scr i with meters := (u.scr i).meters.close } [] :=
      State.modScreen_eq_put
    rw [State.readStream, hmeters, State.modAlarms, State.modScreen_eq_put, State.scr_put_same, State.put_put,
      List.append_nil, State.put_nil]
    rfl
  rw [State.closeInterval, State.evaluateAlarms, hpublished]
  rfl

/-! ### Where the clock's move ends (log 1) -/

theorem State.clockOutcome_eq :
    s.clockOutcome i = ((s.scr i).clock.move (s.take i).2.clockPosition).1.outcome := by
  have honly := (IntakeWork.take (s := s) (i := i)).only
  have hclock : ((s.take i).1.scr i).clock = (s.scr i).clock := by rw [honly]
  rw [State.clockOutcome, hclock]

theorem exec_clockEnd (h : ((s.scr i).clock.move (s.take i).2.clockPosition).1.outcome = .ended) :
    exec (.clockEnd i) s = .next (s.boundary i) :=
  congrArg Host.Outcome.next (if_pos (State.clockOutcome_eq.trans h))

theorem exec_wrap (h : ((s.scr i).clock.move (s.take i).2.clockPosition).1.outcome = .wrapped) :
    exec (.wrap i) s = .next (s.boundary i) :=
  congrArg Host.Outcome.next (if_pos (State.clockOutcome_eq.trans h))

theorem exec_flywheelHold (h : ((s.scr i).clock.move (s.take i).2.clockPosition).1.outcome = .held) :
    exec (.flywheelHold i) s = .next (s.boundary i) :=
  congrArg Host.Outcome.next (if_pos (State.clockOutcome_eq.trans h))

/-- A clock that stays reaches none of the three ends. -/
theorem exec_clockEvents_of_going (h : ((s.scr i).clock.move (s.take i).2.clockPosition).1.outcome = .going) :
    exec (.clockEnd i) s = .next s ∧ exec (.wrap i) s = .next s ∧ exec (.flywheelHold i) s = .next s := by
  have hgoing : s.clockOutcome i = .going := State.clockOutcome_eq.trans h
  exact ⟨congrArg Host.Outcome.next (if_neg (by rw [hgoing]; exact nofun)),
    congrArg Host.Outcome.next (if_neg (by rw [hgoing]; exact nofun)),
    congrArg Host.Outcome.next (if_neg (by rw [hgoing]; exact nofun))⟩

/-- The take of a slot that is EMPTY or WAITING conceals: it carries no position (R20). -/
theorem State.clockPosition_of_silent (hstaged : (s.scr i).intake.staged = (s.scr i).intake.selection)
    (hstate : (s.slot i (s.scr i).intake.selection).state = .empty ∨ (s.slot i (s.scr i).intake.selection).state = .waiting) :
    (s.take i).2.clockPosition = none := by
  have hreal (k : Intake) : k.concealed.real = false := by
    rw [Intake.concealed_eq]
    cases k.lastTaken <;> rfl
  have hdue : (s.scr i).intake.failoverDue ≠ true := by
    intro hdue
    simp only [Intake.failoverDue, Bool.and_eq_true, decide_eq_true_eq] at hdue
    obtain ⟨⟨⟨-, hselection⟩, hstarved⟩, -⟩ := hdue
    rw [State.slot, hselection] at hstate
    rcases hstate with h | h <;> exact absurd (h.symm.trans hstarved) (by decide)
  rw [State.take_of_silent hstaged (by rcases hstate with h | h <;> rw [h] <;> exact nofun)
    (by rcases hstate with h | h <;> rw [h] <;> exact nofun), State.supply_of_not_failover (fun h => hdue h.1),
    State.conceal_eq, Taken.clockPosition, hreal]
  exact if_neg Bool.false_ne_true

/-- Each command for an event inside a boundary is that boundary or nothing. -/
theorem exec_event_cases {id : AlarmId} {command : Instr}
    (h : command ∈ ([.clockEnd i, .wrap i, .flywheelHold i, .crossfadeComplete i, .cutSwap i, .cutComplete i,
      .intervalClose i, .raiseDwellExpiry i id, .clearDwellExpiry i id, .remind i id, .guardReduceStep i,
      .guardReleaseStep i] : List Instr)) :
    exec command s = exec (.blockBoundary i) s ∨ exec command s = .next s := by
  have hboundary : exec (.blockBoundary i) s = .next (s.boundary i) := rfl
  have hcases (p : Prop) [Decidable p] (hexec : exec command s = .next (if p then s.boundary i else s)) :
      exec command s = .next (s.boundary i) ∨ exec command s = .next s := by
    by_cases hp : p
    · exact .inl (hexec.trans (congrArg _ (if_pos hp)))
    · exact .inr (hexec.trans (congrArg _ (if_neg hp)))
  rw [hboundary]
  simp only [List.mem_cons, List.not_mem_nil, or_false] at h
  rcases h with rfl | rfl | rfl | rfl | rfl | rfl | rfl | rfl | rfl | rfl | rfl | rfl <;> exact hcases _ rfl

/-! ### The clock's cases in the obligation's words -/

theorem Clock.going_of_running {c : Clock} {p : Nat} (hstate : c.state = .running) (hmark : c.mark = false)
    (hends : ¬ c.EndsAt p) : c.going p c.flywheelCount = { c with position := p, evaluated := p } := by
  rw [Clock.going, if_neg hends]
  cases c
  subst hstate hmark
  rfl

theorem Clock.going_of_ends {c : Clock} {p : Nat} (hends : c.EndsAt p) :
    c.going p c.flywheelCount = { c with state := .stopped, position := p, evaluated := p, mark := false } := by
  rw [Clock.going, if_pos hends]

theorem Clock.stepped_of_below {c : Clock} (hmark : c.mark = false) (h : c.position < c.endPoint) :
    c.stepped = c.position + 1 := if_pos ⟨hmark, h⟩

theorem Clock.stepped_of_end {c : Clock} (h : c.position = c.endPoint ∨ (c.mark = false ∧ c.position + 1 = c.endPoint)) :
    c.stepped = c.endPoint := by
  rcases h with h | ⟨hmark, h⟩
  · rw [Clock.stepped, if_neg (by omega), h]
  · rw [Clock.stepped_of_below hmark (by omega), h]

theorem Taken.clockPosition_none (h : t.real = false ∨ t.position = none) : t.clockPosition = none := by
  rcases h with h | h <;> simp [Taken.clockPosition, h]

theorem Taken.clockPosition_some {p : Nat} (hreal : t.real = true) (h : t.position = some p) :
    t.clockPosition = some p := by
  rw [Taken.clockPosition, if_pos hreal, h]

/-! ### The lines at an end (R174) -/

theorem State.line_boundary_of_ended (hcues : (s.scr i).cues = []) (hslot : (s.scr i).immediate = .empty)
    (h : ((s.scr i).clock.move (s.take i).2.clockPosition).1.outcome = .ended) (l : LineIx) :
    (s.boundary i).line l = Line.stopFor i (s.line l) := by
  have honly := (IntakeWork.take (s := s) (i := i)).only
  have hclock : ((s.take i).1.scr i).clock = (s.scr i).clock := by rw [honly]
  have hlines : (s.boundary i).lines = s.lines.map (Line.stopFor i) := by
    rw [State.lines_boundary_quiet hcues hslot, State.taken_eq, State.lines_moveClock, hclock, if_pos h, State.lines_take]
  rw [State.line, hlines, Fin.getElem_fin, Vector.getElem_map]
  rfl

end

/-- Settles O51: the boundary's stages by their own lemmas, the clock by the cases of its move. -/
theorem blockBoundaryWork : Obligations.BlockBoundaryWork := by
  refine ⟨fun s i => ?_, fun s i => ?_, fun s i => ?_, fun s i => ?_, fun s i id => ?_, fun s i block => ?_⟩
  · have hpass := Pass.boundary (s := s) (i := i)
    exact ⟨s.boundary i, rfl, State.immediate_boundary, State.boundaryCount_boundary, fun b => State.lane_boundary_bus,
      hpass.screen.mask, hpass.screen.topology, hpass.screen.delay, hpass.numbers, fun l => (hpass.lines l).other,
      fun l => (hpass.lines l).config, hpass.others, State.outside_eq_iff.mp hpass.outside⟩
  · intro c last chosen hcues hslot
    obtain ⟨hclock, -, -⟩ := State.scr_boundary_quiet hcues hslot
    refine ⟨fun hstate => ?_, fun hstate hmode hmark hbelow => ?_, fun hstate hmode hend hstops => ?_,
      fun hstate hmode hmark hend hloop hlength => ?_, fun hstate hmode hcount hstaged hsilent => ?_⟩
    · have hmove := Clock.move_stopped (position := (s.take i).2.clockPosition) hstate
      rw [hmove] at hclock
      exact ⟨⟨s.boundary i, rfl, hclock⟩, exec_clockEvents_of_going (by rw [hmove]; rfl)⟩
    · have hbelow : c.position + 1 < c.endPoint := hbelow
      have hstepped : c.stepped = c.position + 1 := Clock.stepped_of_below hmark (by omega)
      have hshort : c.stepped ≠ c.endPoint := by omega
      rw [Clock.move_free hstate hmode (fun h => hshort h.1)] at hclock
      have hgoing := Clock.going_of_running hstate hmark (fun h => hshort h.1)
      exact ⟨s.boundary i, rfl, (hclock.trans hgoing).trans (by rw [hstepped])⟩
    · have hstepped : c.stepped = c.endPoint := Clock.stepped_of_end hend
      have hends : c.EndsAt c.stepped := ⟨hstepped, hstops⟩
      have hmove := Clock.move_free (position := (s.take i).2.clockPosition) hstate hmode fun ⟨_, hloop, hlength⟩ => by
        rcases hstops with honce | hzero
        · exact absurd (honce.symm.trans hloop) (by decide)
        · exact hlength hzero
      rw [hmove] at hclock
      have hended : ((s.scr i).clock.move (s.take i).2.clockPosition).1.outcome = .ended := by
        rw [hmove]
        exact if_pos hends
      have hgoing := Clock.going_of_ends hends
      rw [hstepped] at hgoing hclock
      exact ⟨s.boundary i, exec_clockEnd hended, hclock.trans hgoing, State.line_boundary_of_ended hcues hslot hended⟩
    · have hstepped : c.stepped = c.endPoint := Clock.stepped_of_end (.inr ⟨hmark, hend⟩)
      have hmove := Clock.move_wraps (position := (s.take i).2.clockPosition) hstate hmode ⟨hstepped, hloop, hlength⟩
      rw [hmove] at hclock
      refine ⟨s.boundary i, exec_wrap (by rw [hmove]), hclock.trans ?_⟩
      dsimp only
      rw [← hmark]
    · have hposition : (s.take i).2.clockPosition = none := State.clockPosition_of_silent hstaged hsilent
      have hmove := Clock.move_holds hstate hmode (Nat.not_lt.mpr hcount)
      rw [hposition, hmove] at hclock
      exact ⟨s.boundary i, exec_flywheelHold (by rw [hposition, hmove]), hclock⟩
  · intro c last block moved hcues hslot
    obtain ⟨hclock, -, -⟩ := State.scr_boundary_quiet hcues hslot
    refine ⟨fun p hmode hstate hreal hp => ?_, fun hmode hstate hnone hcount => ?_, fun hstate hstays => ?_⟩
    · rw [Taken.clockPosition_some hreal hp, Clock.move_chases hstate hmode] at hclock
      exact ⟨s.boundary i, rfl, hclock⟩
    · rw [Taken.clockPosition_none hnone, Clock.move_flywheel hstate hmode hcount] at hclock
      exact ⟨s.boundary i, rfl, hclock⟩
    · have hmove : (s.scr i).clock.move (s.take i).2.clockPosition = (s.scr i).clock.staying := by
        rcases hstays with hmode | hnone
        · exact Clock.move_held_free hstate hmode
        · rw [Taken.clockPosition_none hnone]
          exact Clock.move_held_none hstate
      rw [hmove] at hclock
      exact ⟨s.boundary i, rfl, hclock⟩
  · intro d taken moved decoded equalised gained switched c metered performed p published ids
    have hdecoder : ((s.taken i).1.scr i).decoder = d := State.decoder_taken
    have htaken : s.taken i = (moved.1, taken.2, moved.2) := State.taken_eq
    have hgained : s.gained i = gained := by
      rw [State.gained, State.equalised, hdecoder, htaken]
    have hmetered : s.metered i = metered := by
      rw [State.metered, hgained]
      rfl
    have hperformed : s.beforeClose i = performed := by
      rw [State.beforeClose_eq, hmetered, htaken]
    have hboundary : s.boundary i =
        if 10 ≤ p.meters.boundaryCount then performed.closeInterval i else performed := by
      rw [State.boundary, hperformed]
    have hexec : exec (.blockBoundary i) s = .next (s.boundary i) := rfl
    rw [hexec, hboundary, State.closeInterval_eq]
  · exact fun command hcommand => exec_event_cases hcommand
  · intro c last put still stepped ends ended going forward
    split
    next hstate => exact State.moveClock_staying (Clock.move_stopped hstate)
    next hstate hmode => exact State.moveClock_staying (Clock.move_held_free hstate hmode)
    next hstate _ hposition =>
      have hposition : block.clockPosition = none := hposition
      exact State.moveClock_staying (hposition ▸ Clock.move_held_none hstate)
    next hstate hmode =>
      split
      next hwrap => exact State.moveClock_wraps (Clock.move_wraps hstate hmode hwrap)
      next hwrap => exact State.moveClock_moved (Clock.move_free hstate hmode hwrap)
    next position hmode hposition hstate =>
      have hposition : block.clockPosition = some position := hposition
      have hmoved := State.moveClock_moved (s := s) (i := i) (t := block) (hposition ▸ Clock.move_chases hstate hmode)
      simp only [decide_eq_true_eq] at hmoved
      exact hmoved
    next hstate hmode hposition =>
      have hposition : block.clockPosition = none := hposition
      split
      next hcount => exact State.moveClock_moved (hposition ▸ Clock.move_flywheel hstate hmode hcount)
      next hcount => exact State.moveClock_holds (hposition ▸ Clock.move_holds hstate hmode hcount)

end Sys2Proof.Machine
end

section
/-! The field encodings of section 11.4 read back (R192, R200): numbers of one, two and four bytes, signed numbers, and the
lists of bands, buses and actions. -/

namespace Sys2Proof.Machine

/-! ### Numbers -/

section
variable {n : Nat} {z : Int}

/-- A number fits a byte just when one byte spells it. -/
theorem fits_byte_iff : fits 8 n = true ↔ ∃ a : Byte, beBytes 1 n = [a] ∧ a.toNat = n := by
  rw [fits, decide_eq_true_eq]
  constructor
  · intro h
    exact ⟨BitVec.ofNat 8 n, rfl, by rw [BitVec.toNat_ofNat, Nat.mod_eq_of_lt h]⟩
  · rintro ⟨a, -, rfl⟩
    exact a.isLt

theorem n32_eq {a b c d : Byte} : n32 a b c d = ((a.toNat * 256 + b.toNat) * 256 + c.toNat) * 256 + d.toNat := by
  simp [n32, beNat]

theorem fits_word_iff : fits 16 n = true ↔ ∃ a b : Byte, beBytes 2 n = [a, b] ∧ n16 a b = n := by
  rw [fits, decide_eq_true_eq]
  constructor
  · intro h
    refine ⟨BitVec.ofNat 8 (n / 256), BitVec.ofNat 8 n, rfl, ?_⟩
    rw [n16_eq, BitVec.toNat_ofNat, BitVec.toNat_ofNat]
    omega
  · rintro ⟨a, b, -, rfl⟩
    rw [n16_eq]
    omega

theorem fits_long_iff : fits 32 n = true ↔ ∃ a b c d : Byte, beBytes 4 n = [a, b, c, d] ∧ n32 a b c d = n := by
  rw [fits, decide_eq_true_eq]
  constructor
  · intro h
    refine ⟨BitVec.ofNat 8 (n / 256 / 256 / 256), BitVec.ofNat 8 (n / 256 / 256), BitVec.ofNat 8 (n / 256), BitVec.ofNat 8 n,
      rfl, ?_⟩
    simp only [n32_eq, BitVec.toNat_ofNat]
    omega
  · rintro ⟨a, b, c, d, -, rfl⟩
    rw [n32_eq]
    omega

/-! ### Signed numbers -/

/-- A signed number in its range is the value of its field. -/
theorem signedOf_field {bits : Nat} {m : Nat} (hm : 2 ^ bits = 2 * m) (hhalf : 2 ^ (bits - 1) = m) (hlow : -(m : Int) ≤ z)
    (hhigh : z < m) : signedOf bits (z % ((2 ^ bits : Nat) : Int)).toNat = z := by
  rw [signedOf, hhalf, hm]
  rcases Int.lt_or_le z 0 with hneg | hpos
  · have hmod : z % ((2 * m : Nat) : Int) = z + (2 * m : Nat) := by
      rw [← Int.add_emod_right, Int.emod_eq_of_lt (by omega) (by omega)]
    rw [hmod, if_neg (by omega)]
    omega
  · rw [Int.emod_eq_of_lt hpos (by omega), if_pos (by omega)]
    omega

theorem fitsSigned_word_iff : fitsSigned 16 z = true ↔ ∃ a b : Byte, beSigned 2 z = [a, b] ∧ z16 a b = z := by
  rw [fitsSigned, Bool.and_eq_true, decide_eq_true_eq, decide_eq_true_eq]
  constructor
  · rintro ⟨hlow, hhigh⟩
    have hfits : fits 16 (z % ((256 ^ 2 : Nat) : Int)).toNat = true := by
      rw [fits, decide_eq_true_eq]
      omega
    obtain ⟨a, b, hbytes, hvalue⟩ := fits_word_iff.mp hfits
    refine ⟨a, b, hbytes, ?_⟩
    change signedOf 16 (n16 a b) = z
    rw [hvalue]
    exact signedOf_field (m := 32768) rfl rfl hlow hhigh
  · rintro ⟨a, b, -, rfl⟩
    have hlt : n16 a b < 65536 := by
      rw [n16_eq]
      omega
    change -32768 ≤ signedOf 16 (n16 a b) ∧ signedOf 16 (n16 a b) < 32768
    unfold signedOf
    split <;> omega

theorem fitsSigned_coefficient (h : fitsSigned 24 z = true) : ∃ a b c : Byte, beSigned 3 z = [a, b, c] ∧ z24 a b c = z := by
  rw [fitsSigned, Bool.and_eq_true, decide_eq_true_eq, decide_eq_true_eq] at h
  obtain ⟨hlow, hhigh⟩ := h
  have hlt : (z % ((256 ^ 3 : Nat) : Int)).toNat < 2 ^ 24 := by omega
  refine ⟨_, _, _, rfl, ?_⟩
  have hvalue (m : Nat) (hm : m < 2 ^ 24) :
      beNat [BitVec.ofNat 8 (m / 256 / 256), BitVec.ofNat 8 (m / 256), BitVec.ofNat 8 m] = m := by
    simp only [beNat, List.foldl_cons, List.foldl_nil, BitVec.toNat_ofNat]
    omega
  rw [z24, hvalue _ hlt]
  exact signedOf_field (m := 8388608) rfl rfl hlow hhigh

end

/-! ### Bands and buses of a preset (R67) -/

theorem readBand_bytes {b : Band} {rest : List Byte} (h : b.wf = true) : readBand (b.bytes ++ rest) = some (b, rest) := by
  simp only [Band.wf, Bool.and_eq_true] at h
  obtain ⟨⟨⟨⟨h0, h1⟩, h2⟩, h3⟩, h4⟩ := h
  obtain ⟨_, _, _, e0, v0⟩ := fitsSigned_coefficient h0
  obtain ⟨_, _, _, e1, v1⟩ := fitsSigned_coefficient h1
  obtain ⟨_, _, _, e2, v2⟩ := fitsSigned_coefficient h2
  obtain ⟨_, _, _, e3, v3⟩ := fitsSigned_coefficient h3
  obtain ⟨_, _, _, e4, v4⟩ := fitsSigned_coefficient h4
  rw [Band.bytes, e0, e1, e2, e3, e4]
  simp only [List.cons_append, List.nil_append, readBand, v0, v1, v2, v3, v4]

theorem readBands_bytes {l : List Band} {rest : List Byte} (h : ∀ b ∈ l, b.wf = true) :
    readBands l.length (l.flatMap Band.bytes ++ rest) = some (l, rest) := by
  induction l with
  | nil => rfl
  | cons b l ih =>
    obtain ⟨hb, hl⟩ := List.forall_mem_cons.mp h
    simp only [List.length_cons, List.flatMap_cons, List.append_assoc, readBands, readBand_bytes hb, ih hl]

theorem readBuses_bytes {l : List BusContents} {rest : List Byte} (h : ∀ c ∈ l, c.wf = true) :
    readBuses l.length (l.flatMap BusContents.bytes ++ rest) = some (l, rest) := by
  induction l with
  | nil => rfl
  | cons c l ih =>
    obtain ⟨hc, hl⟩ := List.forall_mem_cons.mp h
    simp only [BusContents.wf, Bool.and_eq_true, fitsSigned_word_iff, fits_byte_iff, List.all_eq_true] at hc
    obtain ⟨⟨⟨_, _, hoffset, voffset⟩, _, hcount, vcount⟩, hbands⟩ := hc
    have hbytes : (c :: l).flatMap BusContents.bytes ++ rest =
        beSigned 2 c.offset ++ beBytes 1 c.bands.length ++
          (c.bands.flatMap Band.bytes ++ (l.flatMap BusContents.bytes ++ rest)) := by
      simp only [List.flatMap_cons, BusContents.bytes, List.append_assoc]
    rw [hbytes, hoffset, hcount]
    simp only [List.length_cons, List.cons_append, List.nil_append, readBuses, vcount, readBands_bytes hbands, ih hl, voffset]

/-! ### Actions and conditions (R144, R147) -/

theorem readAction_bytes {a : RawAction} {rest : List Byte} (h : a.wf = true) :
    readAction (a.bytes ++ rest) = .done [a] rest := by
  cases a <;>
    simp only [RawAction.wf, Bool.and_eq_true, fits_byte_iff, fits_word_iff, fits_long_iff, fitsSigned_word_iff] at h
  case fader position ramp =>
    obtain ⟨⟨_, hp, rfl⟩, _, _, _, _, hr, rfl⟩ := h
    rw [RawAction.bytes, hp, hr]
    rfl
  case offset mask gs ramp =>
    obtain ⟨⟨_, _, hg, rfl⟩, _, _, _, _, hr, rfl⟩ := h
    rw [RawAction.bytes, hg, hr]
    rfl
  case mute mask on =>
    obtain ⟨_, ho, rfl⟩ := h
    rw [RawAction.bytes, ho]
    rfl
  case preset slot | mark number =>
    obtain ⟨_, _, hn, rfl⟩ := h
    rw [RawAction.bytes, hn]
    rfl
  case format code | source slot | lineSet line | lineClear line | lineToggle line =>
    obtain ⟨_, hn, rfl⟩ := h
    rw [RawAction.bytes, hn]
    rfl
  case linePulse line width | clock command position =>
    obtain ⟨⟨_, hn, rfl⟩, _, _, _, _, hw, rfl⟩ := h
    rw [RawAction.bytes, hn, hw]
    rfl
  case unknown kind => cases h

theorem readActions_bytes {l : List RawAction} {rest : List Byte} (h : ∀ a ∈ l, a.wf = true) :
    readActions l.length (l.flatMap RawAction.bytes ++ rest) = .done l rest := by
  induction l with
  | nil => rfl
  | cons a l ih =>
    obtain ⟨ha, hl⟩ := List.forall_mem_cons.mp h
    simp only [List.length_cons, List.flatMap_cons, List.append_assoc, readActions, readAction_bytes ha, ih hl,
      List.cons_append, List.nil_append]

/-- A list of actions behind its number, which fills the payload. -/
theorem readWholeActions_bytes {l : List RawAction} (hlength : fits 8 l.length = true) (h : ∀ a ∈ l, a.wf = true) :
    readWholeActions (beBytes 1 l.length ++ l.flatMap RawAction.bytes) = some l := by
  obtain ⟨_, hcount, vcount⟩ := fits_byte_iff.mp hlength
  have hread := readActions_bytes (rest := []) h
  rw [List.append_nil] at hread
  rw [hcount, List.cons_append, List.nil_append, readWholeActions, vcount, hread]

theorem readCondition_bytes {c : RawCondition} {rest : List Byte} (h : c.wf = true) :
    readCondition (c.bytes ++ rest) = some (c, rest) := by
  cases c <;> simp only [RawCondition.wf, Bool.and_eq_true, fits_byte_iff] at h
  case absent => rfl
  case lineLevel line level =>
    obtain ⟨⟨_, hl, rfl⟩, _, hv, rfl⟩ := h
    rw [RawCondition.bytes, hl, hv]
    rfl
  case format code | playing slot =>
    obtain ⟨_, hn, rfl⟩ := h
    rw [RawCondition.bytes, hn]
    rfl
  case unknown kind => cases h

end Sys2Proof.Machine
end

section
/-! O3: every well-formed request is what its frame reads as (section 11.4). -/

namespace Sys2Proof.Machine

/-- The frame of a request whose payload has its length. -/
theorem frame_of_some {q : Req} {kind : Byte} {payload : List Byte} {f : Frame}
    (hf : (if q.lengthOk then some { tag := q.tag, kind := kind, payload := payload } else none) = some f) :
    ∃ tag, q = { tag := tag, lengthOk := true } ∧ f = { tag := tag, kind := kind, payload := payload } := by
  obtain ⟨tag, lengthOk⟩ := q
  cases lengthOk with
  | false => cases hf
  | true =>
    cases hf
    exact ⟨tag, rfl, rfl⟩

/-! ### The requests whose payload holds a list or fields that depend on another -/

section
variable {q bad : Req}

theorem readLoadPreset_bytes {slot mode : Nat} {mask : Byte} {buses : List BusContents} (hslot : fits 16 slot = true)
    (hmode : fits 8 mode = true) (hbuses : ∀ c ∈ buses, c.wf = true) (hcount : buses.length = maskCount mask) :
    readLoadPreset q bad (beBytes 2 slot ++ beBytes 1 mode ++ [mask] ++ buses.flatMap BusContents.bytes) =
      .loadPreset q slot mode mask buses := by
  obtain ⟨_, _, hs, rfl⟩ := fits_word_iff.mp hslot
  obtain ⟨_, hm, rfl⟩ := fits_byte_iff.mp hmode
  have hread := readBuses_bytes (rest := []) hbuses
  rw [List.append_nil] at hread
  rw [hs, hm]
  simp only [List.cons_append, List.nil_append, readLoadPreset, ← hcount, hread]

theorem readLoadCue_bytes {screen number time : Nat} {condition : RawCondition} {actions : List RawAction}
    (hscreen : fits 8 screen = true) (hnumber : fits 16 number = true) (htime : fits 32 time = true)
    (hcondition : condition.wf = true) (hlength : fits 8 actions.length = true) (hactions : ∀ a ∈ actions, a.wf = true) :
    readLoadCue q bad
        (beBytes 1 screen ++ beBytes 2 number ++ beBytes 4 time ++ condition.bytes ++ beBytes 1 actions.length ++
          actions.flatMap RawAction.bytes) =
      .loadCue q screen number time condition actions := by
  obtain ⟨_, hs, rfl⟩ := fits_byte_iff.mp hscreen
  obtain ⟨_, _, hn, rfl⟩ := fits_word_iff.mp hnumber
  obtain ⟨_, _, _, _, ht, rfl⟩ := fits_long_iff.mp htime
  rw [hs, hn, ht]
  simp only [List.append_assoc, List.cons_append, List.nil_append, readLoadCue, readCondition_bytes hcondition]
  cases condition with
  | unknown kind => cases hcondition
  | absent | lineLevel line level | format code | playing slot =>
    simp only [readWholeActions_bytes hlength hactions]

theorem readFireActions_bytes {screen : Nat} {actions : List RawAction} (hscreen : fits 8 screen = true)
    (hlength : fits 8 actions.length = true) (hactions : ∀ a ∈ actions, a.wf = true) :
    readFireActions q bad (beBytes 1 screen ++ beBytes 1 actions.length ++ actions.flatMap RawAction.bytes) =
      .fireActions q screen actions := by
  obtain ⟨_, hs, rfl⟩ := fits_byte_iff.mp hscreen
  rw [hs, List.append_assoc]
  simp only [List.cons_append, List.nil_append, readFireActions, readWholeActions_bytes hlength hactions]

theorem readSetLine_bytes {line : Nat} {fields : RawLine} (hline : fits 8 line = true) (hfields : fields.wf = true) :
    readSetLine q bad (beBytes 1 line ++ fields.bytes) = .setLine q line fields := by
  obtain ⟨_, hl, rfl⟩ := fits_byte_iff.mp hline
  cases fields <;> simp only [RawLine.wf, Bool.and_eq_true, fits_byte_iff, fits_word_iff, fits_long_iff] at hfields
  case input debounce edge action screen cue =>
    obtain ⟨⟨⟨⟨⟨_, _, _, _, hd, rfl⟩, _, he, rfl⟩, _, ha, rfl⟩, _, hs, rfl⟩, _, _, hc, rfl⟩ := hfields
    rw [RawLine.bytes, hl, hd, he, ha, hs, hc]
    rfl
  case output function screen alarm invert stop =>
    obtain ⟨⟨⟨⟨⟨_, hf, rfl⟩, _, hs, rfl⟩, _, ha, rfl⟩, _, hi, rfl⟩, _, hp, rfl⟩ := hfields
    rw [RawLine.bytes, hl, hf, hs, ha, hi, hp]
    rfl
  case unknown direction => cases hfields

/-- CLIP's threshold has one byte and no sign (R115). -/
theorem alarmThreshold_clip {z : Int} (hlow : 0 ≤ z) (hhigh : z < 256) :
    ∃ a : Byte, beSigned 1 z = [a] ∧ (a.toNat : Int) = z := by
  refine ⟨_, rfl, ?_⟩
  rw [BitVec.toNat_ofNat]
  omega

theorem readSetAlarm_bytes {screen kind : Nat} {threshold hysteresis : Int} {raise clear latch interval count : Nat}
    (hscreen : fits 8 screen = true) (hthreshold : alarmThresholdsWf kind threshold hysteresis = true)
    (hraise : fits 32 raise = true) (hclear : fits 32 clear = true) (hlatch : fits 8 latch = true)
    (hinterval : fits 32 interval = true) (hcount : fits 8 count = true) :
    readSetAlarm q bad
        (beBytes 1 screen ++ beBytes 1 kind ++ alarmThresholdBytes kind threshold hysteresis ++ beBytes 4 raise ++
          beBytes 4 clear ++ beBytes 1 latch ++ beBytes 4 interval ++ beBytes 1 count) =
      .setAlarm q screen kind threshold hysteresis raise clear latch interval count := by
  obtain ⟨_, hs, rfl⟩ := fits_byte_iff.mp hscreen
  obtain ⟨_, _, _, _, hr, rfl⟩ := fits_long_iff.mp hraise
  obtain ⟨_, _, _, _, hc, rfl⟩ := fits_long_iff.mp hclear
  obtain ⟨_, hl, rfl⟩ := fits_byte_iff.mp hlatch
  obtain ⟨_, _, _, _, hi, rfl⟩ := fits_long_iff.mp hinterval
  obtain ⟨_, hn, rfl⟩ := fits_byte_iff.mp hcount
  rw [hs, hr, hc, hl, hi, hn]
  match kind with
  | 0 =>
    simp only [alarmThresholdsWf, Bool.and_eq_true, fitsSigned_word_iff] at hthreshold
    obtain ⟨⟨_, _, ht, rfl⟩, _, _, hh, rfl⟩ := hthreshold
    rw [alarmThresholdBytes, ht, hh]
    rfl
  | 1 =>
    simp only [alarmThresholdsWf, Bool.and_eq_true, decide_eq_true_eq] at hthreshold
    obtain ⟨⟨hlow, hhigh⟩, rfl⟩ := hthreshold
    obtain ⟨_, ht, rfl⟩ := alarmThreshold_clip hlow hhigh
    rw [alarmThresholdBytes, ht]
    rfl
  | 2 =>
    simp only [alarmThresholdsWf, Bool.and_eq_true, fitsSigned_word_iff, decide_eq_true_eq] at hthreshold
    obtain ⟨⟨_, _, ht, rfl⟩, rfl⟩ := hthreshold
    rw [alarmThresholdBytes, ht]
    rfl
  | 3 =>
    simp only [alarmThresholdsWf, Bool.and_eq_true, decide_eq_true_eq] at hthreshold
    obtain ⟨rfl, rfl⟩ := hthreshold
    rfl
  | _ + 4 => cases hthreshold

end

/-- BIND's stream ID is four bytes of its own. -/
theorem requestOf_bind {tag : Byte} {screen slot : Nat} {id : StreamId} (hscreen : fits 8 screen = true)
    (hslot : fits 8 slot = true) :
    requestOf tag 0x01 (beBytes 1 screen ++ beBytes 1 slot ++ beBytes 4 id.toNat) =
      .bind { tag := tag, lengthOk := true } screen slot id := by
  obtain ⟨_, hs, rfl⟩ := fits_byte_iff.mp hscreen
  obtain ⟨_, hl, rfl⟩ := fits_byte_iff.mp hslot
  obtain ⟨a, b, c, d, hid, hvalue⟩ := fits_long_iff.mp (decide_eq_true id.isLt)
  have hback : BitVec.ofNat 32 (n32 a b c d) = id := by
    rw [hvalue, BitVec.ofNat_toNat, BitVec.setWidth_eq]
  rw [hs, hl, hid]
  exact congrArg _ hback

/-! ### The obligation -/

/-- Settles O3: for each kind the bytes of its fields are the ones its reader takes. -/
theorem requestRoundTrip : Obligations.RequestRoundTrip := by
  intro c f hwf hf
  cases c <;>
    simp only [Instr.wf, Bool.and_eq_true] at hwf
  case bind q screen slot id =>
    obtain ⟨hscreen, hslot⟩ := hwf
    obtain ⟨_, rfl, rfl⟩ := frame_of_some hf
    exact requestOf_bind hscreen hslot
  case loadPreset q slot mode mask buses =>
    obtain ⟨⟨⟨⟨hslot, hmode⟩, hbuses⟩, hcount⟩, -⟩ := hwf
    obtain ⟨_, rfl, rfl⟩ := frame_of_some hf
    exact readLoadPreset_bytes hslot hmode (List.all_eq_true.mp hbuses) (of_decide_eq_true hcount)
  case setAlarm q screen kind threshold hysteresis raise clear latch interval count =>
    obtain ⟨⟨⟨⟨⟨⟨hscreen, hthreshold⟩, hraise⟩, hclear⟩, hlatch⟩, hinterval⟩, hcount⟩ := hwf
    obtain ⟨_, rfl, rfl⟩ := frame_of_some hf
    exact readSetAlarm_bytes hscreen hthreshold hraise hclear hlatch hinterval hcount
  case loadCue q screen number time condition actions =>
    obtain ⟨⟨⟨⟨⟨hscreen, hnumber⟩, htime⟩, hcondition⟩, hlength⟩, hactions⟩ := hwf
    obtain ⟨_, rfl, rfl⟩ := frame_of_some hf
    exact readLoadCue_bytes hscreen hnumber htime hcondition hlength (List.all_eq_true.mp hactions)
  case fireActions q screen actions =>
    obtain ⟨⟨hscreen, hlength⟩, hactions⟩ := hwf
    obtain ⟨_, rfl, rfl⟩ := frame_of_some hf
    exact readFireActions_bytes hscreen hlength (List.all_eq_true.mp hactions)
  case setLine q line fields =>
    obtain ⟨hline, hfields⟩ := hwf
    obtain ⟨_, rfl, rfl⟩ := frame_of_some hf
    exact readSetLine_bytes hline hfields
  case hello q | reset q =>
    obtain ⟨_, rfl, rfl⟩ := frame_of_some hf
    rfl
  case badKind | controlFrame | frameTimeout | replyTransmit | resetTakesEffect | ready | powerOn |
      resetInputRelease | audioPacket | lostTimeout | blockBoundary | clockEnd | wrap | flywheelHold |
      crossfadeComplete | cutSwap | cutComplete | intervalClose | raiseDwellExpiry | clearDwellExpiry |
      remind | guardReduceStep | guardReleaseStep | pinChange | debounceExpiry | pulseExpiry |
      frameLengthDiscard =>
    exact nomatch hf
  all_goals simp only [fits_byte_iff, fits_word_iff, fits_long_iff, fitsSigned_word_iff] at hwf
  case unbind q screen slot | setSource q screen slot | setFormat q screen format |
      setLimit q screen position | setPriority q kind priority | setAttention q threshold urgent |
      snapshot q scope clear =>
    obtain ⟨⟨_, hfirst, rfl⟩, _, hsecond, rfl⟩ := hwf
    obtain ⟨_, rfl, rfl⟩ := frame_of_some hf
    rw [hfirst, hsecond]
    rfl
  case listSeen q discovery | readCapture q screen | clearCues q screen | readStats q scope | query q screen |
      screenReset q screen =>
    obtain ⟨_, hfirst, rfl⟩ := hwf
    obtain ⟨_, rfl, rfl⟩ := frame_of_some hf
    rw [hfirst]
    rfl
  case dropPreset q slot | readEvents q n | releaseEvents q n =>
    obtain ⟨_, _, hfirst, rfl⟩ := hwf
    obtain ⟨_, rfl, rfl⟩ := frame_of_some hf
    rw [hfirst]
    rfl
  case selectPreset q screen preset | dropCue q screen number | fire q screen number =>
    obtain ⟨⟨_, hfirst, rfl⟩, _, _, hsecond, rfl⟩ := hwf
    obtain ⟨_, rfl, rfl⟩ := frame_of_some hf
    rw [hfirst, hsecond]
    rfl
  case setFader q screen position ramp | clock q screen command position | driveLine q line operation width =>
    obtain ⟨⟨⟨_, hfirst, rfl⟩, _, hsecond, rfl⟩, _, _, _, _, hthird, rfl⟩ := hwf
    obtain ⟨_, rfl, rfl⟩ := frame_of_some hf
    rw [hfirst, hsecond, hthird]
    rfl
  case setTrim q screen mask trim =>
    obtain ⟨⟨_, hfirst, rfl⟩, _, _, hsecond, rfl⟩ := hwf
    obtain ⟨_, rfl, rfl⟩ := frame_of_some hf
    rw [hfirst, hsecond]
    rfl
  case setMute q screen mask on =>
    obtain ⟨⟨_, hfirst, rfl⟩, _, hsecond, rfl⟩ := hwf
    obtain ⟨_, rfl, rfl⟩ := frame_of_some hf
    rw [hfirst, hsecond]
    rfl
  case ackAlarm q screen kind bus =>
    obtain ⟨⟨⟨_, hfirst, rfl⟩, _, hsecond, rfl⟩, _, hthird, rfl⟩ := hwf
    obtain ⟨_, rfl, rfl⟩ := frame_of_some hf
    rw [hfirst, hsecond, hthird]
    rfl
  case setMeter q screen window calibration =>
    obtain ⟨⟨⟨_, hfirst, rfl⟩, _, _, hsecond, rfl⟩, _, _, hthird, rfl⟩ := hwf
    obtain ⟨_, rfl, rfl⟩ := frame_of_some hf
    rw [hfirst, hsecond, hthird]
    rfl
  case setLayout q screen mask topology delay =>
    obtain ⟨⟨⟨_, hfirst, rfl⟩, _, hsecond, rfl⟩, _, _, hthird, rfl⟩ := hwf
    obtain ⟨_, rfl, rfl⟩ := frame_of_some hf
    rw [hfirst, hsecond, hthird]
    rfl
  case setIntake q screen start low high policy pacing =>
    obtain ⟨⟨⟨⟨⟨⟨_, hfirst, rfl⟩, _, _, hsecond, rfl⟩, _, _, hthird, rfl⟩, _, _, hfourth, rfl⟩,
      _, hfifth, rfl⟩, _, hsixth, rfl⟩ := hwf
    obtain ⟨_, rfl, rfl⟩ := frame_of_some hf
    rw [hfirst, hsecond, hthird, hfourth, hfifth, hsixth]
    rfl
  case setGuard q screen enable step interval floor release =>
    obtain ⟨⟨⟨⟨⟨⟨_, hfirst, rfl⟩, _, hsecond, rfl⟩, _, hthird, rfl⟩, _, _, _, _, hfourth, rfl⟩,
      _, _, hfifth, rfl⟩, _, _, _, _, hsixth, rfl⟩ := hwf
    obtain ⟨_, rfl, rfl⟩ := frame_of_some hf
    rw [hfirst, hsecond, hthird, hfourth, hfifth, hsixth]
    rfl
  case setClock q screen mode length endMode pass flywheel =>
    obtain ⟨⟨⟨⟨⟨⟨_, hfirst, rfl⟩, _, hsecond, rfl⟩, _, _, _, _, hthird, rfl⟩, _, hfourth, rfl⟩,
      _, _, _, _, hfifth, rfl⟩, _, _, _, _, hsixth, rfl⟩ := hwf
    obtain ⟨_, rfl, rfl⟩ := frame_of_some hf
    rw [hfirst, hsecond, hthird, hfourth, hfifth, hsixth]
    rfl
  case setTrigger q screen entry line edge position =>
    obtain ⟨⟨⟨⟨⟨_, hfirst, rfl⟩, _, hsecond, rfl⟩, _, hthird, rfl⟩, _, hfourth, rfl⟩, _, _, _, _, hfifth, rfl⟩ := hwf
    obtain ⟨_, rfl, rfl⟩ := frame_of_some hf
    rw [hfirst, hsecond, hthird, hfourth, hfifth]
    rfl

end Sys2Proof.Machine
end
